-- ==== Sys2Proof/Word.lean ====
section
/-! DEFINITION. The bit-vector types of EFF-VLAN (spec/00_scope.md R12, R13, R19; spec/20_memory.md R50).
Only what the spec treats as bits is a bit vector here. -/

namespace Sys2Proof

/-- One byte of operand memory, of a text or of a frame buffer (R19 "Byte lists"). -/
abbrev Byte := BitVec 8

/-- A 32-bit register, command word, interface handle or frame-buffer handle (R12, R21 to R31). -/
abbrev Word32 := BitVec 32

/-- A `mac48`: a 6-byte hardware address with byte 0 in bits [47:40] (R13, R19). -/
abbrev Mac48 := BitVec 48

/-- A host byte address, 0x00000 to 0x1FFFF (R50, assumption log 15). -/
abbrev HostAddr := BitVec 17

end Sys2Proof
end

