-- ==== Sys2Proof/Syntax.lean ====
section
/-! DEFINITION. The eight commands of EFF-VLAN: one constructor per row of spec/opcode_table.json
(spec/30_encoding.md R71). -/

namespace Sys2Proof

/-- A decoded command word. A channel command carries its CH field, the slot index (R70, R72); a global
command has none. Every other operand is read from ARG0 to ARG2 when the command executes (R79). -/
inductive Instr where
  /-- OPEN: create a channel from a connection configuration (R112). -/
  | openChannel
  /-- REGISTER: join the target's multicast group (R116). -/
  | register (ch : BitVec 8)
  /-- UNREGISTER: leave the target's multicast group (R118). -/
  | unregister (ch : BitVec 8)
  /-- SEND: build one frame and hand it to the transmitter (R120). -/
  | send (ch : BitVec 8)
  /-- RECEIVE: the stub receive path (R127). -/
  | receive (ch : BitVec 8)
  /-- CLOSE: destroy a channel (R128). -/
  | close (ch : BitVec 8)
  /-- PARSE_HWADDR: parse a hardware-address text (R98). -/
  | parseHwaddr
  /-- IS_MULTICAST: classify a hardware address (R99). -/
  | isMulticast
  deriving DecidableEq, Repr

/-- The CH field of a command: its slot index for a channel command, 0 for a global one (R70, R72). -/
def Instr.chField : Instr → BitVec 8
  | .openChannel => 0#8
  | .register ch => ch
  | .unregister ch => ch
  | .send ch => ch
  | .receive ch => ch
  | .close ch => ch
  | .parseHwaddr => 0#8
  | .isMulticast => 0#8

/-- Whether a command is a channel command, one that acts on the slot CH names (R72). -/
def Instr.isChannelCommand : Instr → Bool
  | .openChannel => false
  | .register _ => true
  | .unregister _ => true
  | .send _ => true
  | .receive _ => true
  | .close _ => true
  | .parseHwaddr => false
  | .isMulticast => false

end Sys2Proof
end

