-- ==== Sys2Proof/Decode.lean ====
section
/-! DEFINITION. The decoder and the encoder of the 32-bit command word (spec/30_encoding.md R70 to R74, R81).
The checks of R74 that read the machine's state (FAULT, an open slot, a descriptor's range) are made when the
command is issued and executed (Machine/Access.lean and the meanings); here are the checks on the word alone. -/

namespace Sys2Proof

/-- Why a word is no command. Every case is an ILLEGAL_COMMAND fault of the machine (R74, R81). -/
inductive DecodeError where
  /-- RSV0 or RSV1 holds a nonzero bit (R73). -/
  | reservedBits
  /-- OP is 0x0, 0x7 or 0xA to 0xF (R81). -/
  | reservedOpcode
  /-- A global command with a nonzero CH (R72). -/
  | channelOnGlobal
  deriving DecidableEq, Repr

/-- OP, bits [3:0] (R70). -/
def fieldOp (w : Word32) : BitVec 4 := w.extractLsb' 0 4

/-- RSV0, bits [7:4] (R70). -/
def fieldRsv0 (w : Word32) : BitVec 4 := w.extractLsb' 4 4

/-- CH, bits [15:8] (R70). -/
def fieldCh (w : Word32) : BitVec 8 := w.extractLsb' 8 8

/-- RSV1, bits [31:16] (R70). -/
def fieldRsv1 (w : Word32) : BitVec 16 := w.extractLsb' 16 16

/-- A global command: CH must be 0 (R72). -/
def globalCommand (i : Instr) (ch : BitVec 8) : Except DecodeError Instr :=
  if ch = 0#8 then .ok i else .error .channelOnGlobal

/-- The opcode map of R71. -/
def decodeOp (op : BitVec 4) (ch : BitVec 8) : Except DecodeError Instr :=
  match op.toNat with
  | 0x1 => globalCommand .openChannel ch
  | 0x2 => .ok (.register ch)
  | 0x3 => .ok (.unregister ch)
  | 0x4 => .ok (.send ch)
  | 0x5 => .ok (.receive ch)
  | 0x6 => .ok (.close ch)
  | 0x8 => globalCommand .parseHwaddr ch
  | 0x9 => globalCommand .isMulticast ch
  | _ => .error .reservedOpcode

/-- Decoding, total on the 32-bit words: the checks on the word in the order of R74. -/
def decode (w : Word32) : Except DecodeError Instr :=
  if fieldRsv0 w ≠ 0#4 ∨ fieldRsv1 w ≠ 0#16 then .error .reservedBits
  else decodeOp (fieldOp w) (fieldCh w)

/-- The OP value of a command (R71). -/
def Instr.opcode : Instr → BitVec 4
  | .openChannel => 0x1#4
  | .register _ => 0x2#4
  | .unregister _ => 0x3#4
  | .send _ => 0x4#4
  | .receive _ => 0x5#4
  | .close _ => 0x6#4
  | .parseHwaddr => 0x8#4
  | .isMulticast => 0x9#4

/-- The command word `{16'h0000, CH[7:0], 4'h0, OP[3:0]}` (R70). -/
def encode (i : Instr) : Word32 := 0#16 ++ i.chField ++ 0#4 ++ i.opcode

/-- The instruction the decoder reads from the `nbits` table bits `w`. A command is one 32-bit word (R80),
which the HOST writes whole, so no byte order enters; a word of more than 32 bits is no command (assumption log 17). -/
def decodeTableWord (nbits w : Nat) : Option Instr :=
  if w % 2 ^ nbits < 2 ^ 32 then (decode (BitVec.ofNat 32 (w % 2 ^ nbits))).toOption else none

end Sys2Proof
end

