-- ==== Sys2Proof/Config.lean ====
section
/-! DEFINITION. The implementation parameters (spec/00_scope.md R5 to R11), the spec's constants (R14 to R16)
and the free values: opaque constants with no body for the values the spec leaves unspecified. -/

namespace Sys2Proof

/-- R7, R8: where OPEN takes the interface name it resolves. `FIXED_IFACE_NAME` has no default and exists
only in FIXED mode, so FIXED carries it. -/
inductive IfaceNameMode where
  /-- CONFIG (encoded 0): the name is the ARG1 descriptor's text. -/
  | config
  /-- FIXED (encoded 1): the name is `FIXED_IFACE_NAME`. -/
  | fixed (name : List Byte)
  deriving DecidableEq, Repr

/-- R9: whether a successful REGISTER or UNREGISTER changes the channel state. -/
inductive RegTransitionMode where
  /-- MIRROR (encoded 0). -/
  | mirror
  /-- NONE (encoded 1). -/
  | none
  deriving DecidableEq, Repr

/-- R10: whether a hex group of more than two digits is rejected. -/
inductive GroupDigitsMode where
  /-- VALUE_ONLY (encoded 0). -/
  | valueOnly
  /-- MAX2 (encoded 1). -/
  | max2
  deriving DecidableEq, Repr

/-- R11: the order of the two 16-bit fields of the 4-byte VLAN insertion. -/
inductive TagLayout where
  /-- TCI_FIRST (encoded 0). -/
  | tciFirst
  /-- TPID_FIRST (encoded 1). -/
  | tpidFirst
  deriving DecidableEq, Repr

/-- The implementation parameters (R5 to R11). A state carries them, no step writes them, and a statement
about every state is a statement about every value of them (assumption log 1). -/
structure Params where
  /-- `NUM_CHANNELS` (R5). -/
  numChannels : Nat
  /-- `OPM_BYTES` (R6). -/
  opmBytes : Nat
  /-- `IFACE_NAME_MODE` with `FIXED_IFACE_NAME` (R7, R8). -/
  ifaceName : IfaceNameMode
  /-- `REG_TRANSITION_MODE` (R9). -/
  regTransition : RegTransitionMode
  /-- `GROUP_DIGITS_MODE` (R10). -/
  groupDigits : GroupDigitsMode
  /-- `TAG_LAYOUT` (R11). -/
  tagLayout : TagLayout
  deriving DecidableEq, Repr

/-- The spec's default of every parameter (R5 to R11). -/
def Params.default : Params where
  numChannels := 8
  opmBytes := 4096
  ifaceName := .config
  regTransition := .mirror
  groupDigits := .valueOnly
  tagLayout := .tciFirst

namespace Config

/-- `ETHERTYPE_PUBSUB` (R14). -/
def ethertypePubsub : BitVec 16 := 0xB62C#16

/-- `ETHERTYPE_VLAN` (R15). -/
def ethertypeVlan : BitVec 16 := 0x8100#16

/-- `BROADCAST`, all 48 bits set (R16). -/
def broadcast : Mac48 := 0xFFFFFFFFFFFF#48

/-- `PRIO_SHIFT` (R16). -/
def prioShift : Nat := 13

/-- `VLAN_TAG_BYTES` (R16). -/
def vlanTagBytes : Nat := 4

/-- FREE VALUE (assumption log 5): what OPM byte `i` holds after the `resets`-th reset input while the HOST
has not written it since (R177, spec/93_implementation_defined.md U3 "any value"). -/
opaque unwrittenOpm (resets i : Nat) : Byte

/-- FREE VALUE (assumption log 6): what offset `off` of a buffer ENV allocates holds before EFF writes it
(R57, U4 "any value"); `draw` is the number of ENV events recorded before the buffer was handed over. -/
opaque freshFrameByte (draw off : Nat) : Byte

end Config
end Sys2Proof
end

