-- ==== Sys2Proof/Machine/State.lean ====
section
/-! DEFINITION. The state of EFF-VLAN as plain data (spec/10_state.md; spec/20_memory.md R50 to R57;
spec/60_exceptions.md R164 to R168), the model's outcomes, and the state after reset (R48). -/

namespace Sys2Proof.Machine

open Sys2Proof

/-- `ChannelState` (R37). The reserved codes 6 and 7, which no rule writes, have no constructor
(assumption log 9). -/
inductive ChState where
  | unconfigured
  | publisher
  | subscriber
  | publisherSubscriber
  | ready
  | error
  deriving DecidableEq, Repr

/-- The record of one slot of the channel table (R35 to R42). -/
structure Channel where
  /-- VALID, 1 bit: the slot holds an open channel (R36). -/
  valid : Bool
  /-- STATE, 3 bits (R37). -/
  state : ChState
  /-- VID, 16 bits (R38). -/
  vid : BitVec 16
  /-- PRIO, 8 bits (R39). -/
  prio : BitVec 8
  /-- IFH, 32 bits (R40). -/
  ifh : Word32
  /-- LMAC, 48 bits (R41). -/
  lmac : Mac48
  /-- TMAC, 48 bits (R42). -/
  tmac : Mac48
  deriving DecidableEq, Repr

/-- A free slot: every field 0, as reset and CLOSE leave it (R47, R48, R128). -/
def Channel.free : Channel where
  valid := false
  state := .unconfigured
  vid := 0#16
  prio := 0#8
  ifh := 0#32
  lmac := 0#48
  tmac := 0#48

/-- An answer of ENV: `Ok(values)` or `Err` (R19, R168). -/
inductive Answer (α : Type) where
  | ok (values : α)
  | err
  deriving DecidableEq, Repr

/-- The values of an `Ok` answer of `ParseEndpointUrl` (R164). -/
structure UrlParts where
  target : List Byte
  vid : BitVec 16
  prio : BitVec 8
  deriving DecidableEq, Repr

/-- The values of an `Ok` answer of `ResolveInterface` (R165). -/
structure IfaceInfo where
  ifh : Word32
  lmac : Mac48
  deriving DecidableEq, Repr

/-- The requests EFF makes of ENV (R164 to R167). -/
inductive EnvRequest where
  | parseEndpointUrl
  | resolveInterface
  | allocateFrame
  | transmit
  | freeFrame
  | joinGroup
  | leaveGroup
  deriving DecidableEq, Repr

/-- The answers ENV will give, request kind by request kind, first answer first (R168 "free draw"). They are
data of the agent ENV: no rule fixes them, a statement about every state is a statement about every sequence
of answers, and an empty list is an ENV that does not answer that request (assumption log 3). -/
structure EnvAnswers where
  parseEndpointUrl : List (Answer UrlParts)
  resolveInterface : List (Answer IfaceInfo)
  allocateFrame : List (Answer Word32)
  transmit : List (Answer Unit)
  /-- FreeFrame answers only "done" (R166). -/
  freeFrame : List Unit
  joinGroup : List (Answer Unit)
  leaveGroup : List (Answer Unit)
  deriving DecidableEq, Repr

/-- No answer of any kind. -/
def EnvAnswers.silent : EnvAnswers where
  parseEndpointUrl := []
  resolveInterface := []
  allocateFrame := []
  transmit := []
  freeFrame := []
  joinGroup := []
  leaveGroup := []

/-- One event of the ENV event history: a request with its arguments and its answer. A Transmit event also
holds the buffer's bytes at the time of the request (R168). -/
inductive Event where
  | parseEndpointUrl (url : List Byte) (answer : Answer UrlParts)
  | resolveInterface (name : List Byte) (answer : Answer IfaceInfo)
  | allocateFrame (size : Word32) (answer : Answer Word32)
  | transmit (ifh fb : Word32) (src dst : Mac48) (etherType : BitVec 16) (frame : List Byte) (answer : Answer Unit)
  | freeFrame (fb : Word32)
  | joinGroup (ifh : Word32) (mac : Mac48) (answer : Answer Unit)
  | leaveGroup (ifh : Word32) (mac : Mac48) (answer : Answer Unit)
  deriving DecidableEq, Repr

/-- A frame buffer EFF holds inside a SEND: ENV's handle and the buffer's bytes, `FMEM[fb][0 .. size-1]` (R57). -/
structure FrameBuffer where
  handle : Word32
  bytes : List Byte
  deriving DecidableEq, Repr

/-- The operand memory OPM (R52): the bytes the HOST has written since reset, as (offset, byte) cells in
strictly rising order of offset (`Memory.wf`). An offset that is not listed has not been written since reset. -/
abbrev Memory := List Host.Cell

/-- What reaches the block from outside, in the order the HOST performs it (R17, R53, R55, R64), and the
external reset input (R175). -/
inductive HostOp where
  /-- `HostRead32(a)` -/
  | read32 (a : HostAddr)
  /-- `HostWrite32(a, v)` -/
  | write32 (a : HostAddr) (v : Word32)
  /-- `HostRead8(a)` -/
  | read8 (a : HostAddr)
  /-- `HostWrite8(a, b)` -/
  | write8 (a : HostAddr) (b : Byte)
  /-- the reset input, outside the command set -/
  | reset
  deriving DecidableEq, Repr

/-- The response registers (R25 to R29), 32 bits each. -/
structure Resp where
  /-- RESP_STATUS (R25). -/
  status : Word32
  /-- RESP_CH (R26). -/
  ch : Word32
  /-- RESP_MAC_HI (R27). -/
  macHi : Word32
  /-- RESP_MAC_LO (R27). -/
  macLo : Word32
  /-- RESP_FLAGS (R28). -/
  flags : Word32
  /-- RESP_LEN (R29). -/
  len : Word32
  deriving DecidableEq, Repr

/-- The status codes a command may write to RESP_STATUS (R151). -/
inductive Status where
  | ok
  | invalidAddressFormat
  | invalidConfiguration
  | interfaceResolutionError
  | invalidState
  | outOfMemory
  | transmitError
  | internalError
  | none
  | faulted
  deriving DecidableEq, Repr

/-- The causes the FAULT register records (R153). -/
inductive FaultCause where
  | illegalCommand
  | operandRange
  | danglingHandle
  | hostAccess
  deriving DecidableEq, Repr

/-- The three classes of hardware address (R96). -/
inductive AddrClass where
  | unicast
  | multicast
  | broadcast
  deriving DecidableEq, Repr

/-- The machine: EFF with its registers, channel table and operand memory, the frame buffer it holds, the event
history, and the two outside agents as data (what ENV will answer, what the HOST will do next). -/
structure State where
  /-- The implementation parameters (R5 to R11), which CAPS and OPM_SIZE report (R32). No step writes them. -/
  params : Params
  /-- CMD (R21). -/
  cmd : Word32
  /-- ARG0 (R22). -/
  arg0 : Word32
  /-- ARG1 (R23). -/
  arg1 : Word32
  /-- ARG2 (R24). -/
  arg2 : Word32
  /-- RESP_STATUS, RESP_CH, RESP_MAC_HI, RESP_MAC_LO, RESP_FLAGS, RESP_LEN (R25 to R29). -/
  resp : Resp
  /-- FAULT (R30). -/
  fault : Word32
  /-- FAULT_INFO (R31). -/
  faultInfo : Word32
  /-- The channel table `CH[0 .. NUM_CHANNELS-1]` (R35). -/
  channels : List Channel
  /-- OPM (R52, assumption log 5, 14). -/
  opm : Memory
  /-- The frame buffer EFF holds; none between commands (R45, R57, assumption log 12). -/
  frame : Option FrameBuffer
  /-- The ENV event history, oldest event first (R168, assumption log 10). -/
  history : List Event
  /-- MODEL'S OWN: how many reset inputs there have been; it indexes the unspecified OPM bytes (R177, assumption log 7). -/
  resets : Nat
  /-- MODEL'S OWN: the answers ENV will give (R168, assumption log 3, 13). -/
  env : EnvAnswers
  /-- MODEL'S OWN: what the HOST will do, next first (R17, R64, assumption log 2). -/
  inputs : List HostOp
  /-- MODEL'S OWN: the value the last host read returned to the HOST (R53 to R55, assumption log 8). -/
  readData : Word32
  deriving DecidableEq, Repr

/-- Why the model has no next state. -/
inductive Fault where
  /-- Raised by a command that needs an answer of this request when ENV gives none: EFF is stuck and has no step
  (R18, R168, R185; spec/93_implementation_defined.md U6). Safe: the model stops where the block waits, and shows no
  partial effect (assumption log 3, 4). -/
  | envSilent (request : EnvRequest)
  deriving DecidableEq, Repr

/-- Why the model gives an instruction no meaning. -/
inductive Refusal where
  /-- Raised by an arm of `exec` whose instruction has no meaning yet; no arm is left so. Safe: the model stops. -/
  | notModelled (mnemonic : String)
  deriving DecidableEq, Repr

/-- The outcome of a meaning or of a step. -/
abbrev Out := Host.Outcome State Fault Refusal

/-- The block right after power-on with the parameters `p` (R48, R175): every register and channel field at its
reset value, OPM with no written byte (R177), no event recorded. The outside agents have nothing to do yet. What R48 does not name
stands at the value of assumption log 2, 3, 7, 8, 10 and 12. -/
def State.resetWith (p : Params) : State where
  params := p
  cmd := 0#32
  arg0 := 0#32
  arg1 := 0#32
  arg2 := 0#32
  resp := { status := 0xFE#32, ch := 0#32, macHi := 0#32, macLo := 0#32, flags := 0#32, len := 0#32 }
  fault := 0#32
  faultInfo := 0#32
  channels := List.replicate p.numChannels Channel.free
  opm := []
  frame := none
  history := []
  resets := 0
  env := .silent
  inputs := []
  readData := 0#32

/-- The machine right after reset, with the default parameters (R5 to R11, R48). -/
def State.reset : State := State.resetWith Params.default

end Sys2Proof.Machine
end

