-- ==== Sys2Proof/Machine/Ops.lean ====
section
/-! DEFINITION. The named operations over registers, operand memory, channel table, frame buffer and ENV, and
recording a fault (spec/60_exceptions.md R154), the one exception operation of the block. There is no return from
it (R160): only the reset input clears FAULT. -/

namespace Sys2Proof.Machine

open Sys2Proof

/-- The status codes of RESP_STATUS[7:0] (R151). -/
def Status.code : Status → Word32
  | .ok => 0x00#32
  | .invalidAddressFormat => 0x01#32
  | .invalidConfiguration => 0x02#32
  | .interfaceResolutionError => 0x03#32
  | .invalidState => 0x04#32
  | .outOfMemory => 0x05#32
  | .transmitError => 0x06#32
  | .internalError => 0x07#32
  | .none => 0xFE#32
  | .faulted => 0xFF#32

/-- The fault cause codes of FAULT[7:0] (R153). -/
def FaultCause.code : FaultCause → Word32
  | .illegalCommand => 0x01#32
  | .operandRange => 0x02#32
  | .danglingHandle => 0x03#32
  | .hostAccess => 0x04#32

/-! Operand memory. -/

/-- The byte the HOST has written at offset `i` since reset, if any. -/
def Memory.read (m : Memory) (i : Nat) : Option Byte :=
  match m with
  | [] => none
  | (a, b) :: rest => if a = i then some b else Memory.read rest i

/-- Write one byte, keeping the offsets strictly rising. Every byte the HOST writes is listed. -/
def Memory.write (m : Memory) (i : Nat) (b : Byte) : Memory :=
  match m with
  | [] => [(i, b)]
  | (a, c) :: rest =>
    if i < a then (i, b) :: (a, c) :: rest
    else if i = a then (i, b) :: rest
    else (a, c) :: Memory.write rest i b

/-- The canonical form: offsets strictly rising. -/
def Memory.wf (m : Memory) : Bool :=
  match m with
  | [] => true
  | (a, _) :: rest => rest.all (fun c => decide (a < c.1)) && Memory.wf rest

/-- `OPM[i]`: the byte the HOST wrote, or the unspecified value the byte holds until it does (R52, R177;
assumption log 5). This is the one definition of what an unlisted offset reads as. -/
def State.opmByte (s : State) (i : Nat) : Byte :=
  match s.opm.read i with
  | some b => b
  | none => Config.unwrittenOpm s.resets i

/-- `MemRead(off, len)` (R19). -/
def State.memRead (s : State) (off len : Nat) : List Byte := (List.range len).map (fun k => s.opmByte (off + k))

/-- `MemWrite(i, 1, b)` (R19, R55). -/
def State.memWrite (i : Nat) (b : Byte) (s : State) : State := { s with opm := s.opm.write i b }

/-! Response registers. -/

/-- `respond(status)` (R19): RESP_STATUS is written and the command ends. -/
def State.respond (st : Status) (s : State) : State := { s with resp := { s.resp with status := st.code } }

/-- Write RESP_CH with a slot index in bits [7:0] (R26). -/
def State.setRespCh (n : Nat) (s : State) : State := { s with resp := { s.resp with ch := (BitVec.ofNat 8 n).setWidth 32 } }

/-- Write RESP_MAC_HI and RESP_MAC_LO with a mac48 (R27). -/
def State.setRespMac (m : Mac48) (s : State) : State :=
  { s with resp := { s.resp with macHi := m.extractLsb' 16 32, macLo := (m.extractLsb' 0 16).setWidth 32 } }

/-- Write RESP_FLAGS (R28). -/
def State.setRespFlags (w : Word32) (s : State) : State := { s with resp := { s.resp with flags := w } }

/-- Write RESP_LEN with a length in bits [15:0] (R29). -/
def State.setRespLen (n : BitVec 16) (s : State) : State := { s with resp := { s.resp with len := n.setWidth 32 } }

/-- The response prologue of every CMD write: all response registers but RESP_STATUS to 0 (R33). -/
def State.prologue (s : State) : State :=
  { s with resp := { status := s.resp.status, ch := 0#32, macHi := 0#32, macLo := 0#32, flags := 0#32, len := 0#32 } }

/-! Faults. -/

/-- `raise Fault(cause, info)` on FAULT and FAULT_INFO: the first fault since reset is kept (R154). -/
def State.raiseFault (cause : FaultCause) (info : Word32) (s : State) : State :=
  if s.fault = 0#32 then { s with fault := cause.code, faultInfo := info } else s

/-- A fault that comes from a CMD write: FAULT_INFO is the CMD word and RESP_STATUS reads FAULTED (R153, R154).
The command has no other effect. -/
def State.commandFault (cause : FaultCause) (s : State) : State := (s.raiseFault cause s.cmd).respond .faulted

/-! Channel table. -/

/-- `CH[n]`. A slot the table does not have reads as a free one. -/
def State.chan (s : State) (n : Nat) : Channel := s.channels.getD n Channel.free

/-- `CH[n] <- c`. -/
def State.setChannel (n : Nat) (c : Channel) (s : State) : State := { s with channels := s.channels.set n c }

/-- `CH[n].STATE <- st`. -/
def State.setChannelState (n : Nat) (st : ChState) (s : State) : State := s.setChannel n { s.chan n with state := st }

/-- The slot exists and is open: `CH < NUM_CHANNELS` and `CH[CH].VALID = 1` (R72). -/
def State.slotOpen (s : State) (ch : BitVec 8) : Bool := decide (ch.toNat < s.params.numChannels) && (s.chan ch.toNat).valid

/-- The least `k < NUM_CHANNELS` with `CH[k].VALID = 0`, if there is one (R112, R113). -/
def State.freeSlot (s : State) : Option Nat := (List.range s.params.numChannels).find? (fun k => !(s.chan k).valid)

/-- The handle check of R74: a channel command whose slot does not exist or is not open is a DANGLING_HANDLE fault. -/
def requireOpen (ch : BitVec 8) (s : State) (k : State → Out) : Out :=
  if s.slotOpen ch then k s else .next (s.commandFault .danglingHandle)

/-- State gating: outside `legal` the command ends InvalidState with no other effect (R111). -/
def requireState (legal : List ChState) (c : Channel) (s : State) (k : State → Out) : Out :=
  if c.state ∈ legal then k s else .next (s.respond .invalidState)

/-! Frame memory: the one buffer EFF holds inside a SEND. -/

/-- The buffer ENV's allocator hands over: exactly `size` bytes, of unspecified contents (R57, assumption log 6). -/
def State.holdFrame (fb : Word32) (size : Nat) (s : State) : State :=
  { s with frame := some { handle := fb, bytes := (List.range size).map (Config.freshFrameByte s.history.length) } }

/-- `FMemWrite(fb, off, b)` (R19). -/
def State.fMemWrite (off : Nat) (b : Byte) (s : State) : State :=
  { s with frame := s.frame.map (fun f => { f with bytes := f.bytes.set off b }) }

/-- `FMemWrite` of each byte of a list, at rising offsets from `off`. -/
def State.fMemWriteList (off : Nat) (bs : List Byte) (s : State) : State :=
  match bs with
  | [] => s
  | b :: rest => State.fMemWriteList (off + 1) rest (s.fMemWrite off b)

/-- The bytes the transmitter reads from the buffer (R166). -/
def State.frameBytes (s : State) : List Byte :=
  match s.frame with
  | some f => f.bytes
  | none => []

/-- The buffer is no longer EFF's (R57, R125). -/
def State.dropFrame (s : State) : State := { s with frame := none }

/-! ENV: each request takes the next answer of its kind and is recorded, with the answer, in the history (R168).
Where ENV gives no answer EFF is stuck (R18, R168). -/

/-- An answered request: the answers still to come and the event recorded. -/
def State.answered (env : EnvAnswers) (e : Event) (s : State) : State := { s with env := env, history := s.history ++ [e] }

/-- `req URLP.ParseEndpointUrl(url)` (R164). -/
def askParseEndpointUrl (url : List Byte) (s : State) (k : Answer UrlParts → State → Out) : Out :=
  match s.env.parseEndpointUrl with
  | [] => .fault (.envSilent .parseEndpointUrl)
  | a :: rest => k a (s.answered { s.env with parseEndpointUrl := rest } (.parseEndpointUrl url a))

/-- `req IFR.ResolveInterface(name)` (R165). -/
def askResolveInterface (name : List Byte) (s : State) (k : Answer IfaceInfo → State → Out) : Out :=
  match s.env.resolveInterface with
  | [] => .fault (.envSilent .resolveInterface)
  | a :: rest => k a (s.answered { s.env with resolveInterface := rest } (.resolveInterface name a))

/-- `req FAL.AllocateFrame(size)` (R166). -/
def askAllocateFrame (size : Word32) (s : State) (k : Answer Word32 → State → Out) : Out :=
  match s.env.allocateFrame with
  | [] => .fault (.envSilent .allocateFrame)
  | a :: rest => k a (s.answered { s.env with allocateFrame := rest } (.allocateFrame size a))

/-- `req TX.Transmit(ifh, fb, src, dst, etherType)`: the event holds the bytes of the buffer (R166, R168). -/
def askTransmit (ifh fb : Word32) (src dst : Mac48) (etherType : BitVec 16) (s : State) (k : Answer Unit → State → Out) : Out :=
  match s.env.transmit with
  | [] => .fault (.envSilent .transmit)
  | a :: rest => k a (s.answered { s.env with transmit := rest } (.transmit ifh fb src dst etherType s.frameBytes a))

/-- `req FAL.FreeFrame(fb)`: it has no error, and afterwards EFF holds no buffer (R57, R166). -/
def askFreeFrame (fb : Word32) (s : State) (k : State → Out) : Out :=
  match s.env.freeFrame with
  | [] => .fault (.envSilent .freeFrame)
  | _ :: rest => k (s.answered { s.env with freeFrame := rest } (.freeFrame fb)).dropFrame

/-- `req MGM.JoinGroup(ifh, mac)` (R167). -/
def askJoinGroup (ifh : Word32) (mac : Mac48) (s : State) (k : Answer Unit → State → Out) : Out :=
  match s.env.joinGroup with
  | [] => .fault (.envSilent .joinGroup)
  | a :: rest => k a (s.answered { s.env with joinGroup := rest } (.joinGroup ifh mac a))

/-- `req MGM.LeaveGroup(ifh, mac)` (R167). -/
def askLeaveGroup (ifh : Word32) (mac : Mac48) (s : State) (k : Answer Unit → State → Out) : Out :=
  match s.env.leaveGroup with
  | [] => .fault (.envSilent .leaveGroup)
  | a :: rest => k a (s.answered { s.env with leaveGroup := rest } (.leaveGroup ifh mac a))

/-! Reset. -/

/-- The external reset input (R175): every register and channel field to its reset value (R48). OPM's contents
become unspecified (R177). ENV, its history and its groups are not touched (R178), nor are the parameters (assumption log
7, 10, 11). -/
def State.hardReset (s : State) : State :=
  { State.resetWith s.params with history := s.history, resets := s.resets + 1, env := s.env, inputs := s.inputs }

end Sys2Proof.Machine
end

