-- ==== Sys2Proof/Machine/Flags.lean ====
section
/-! DEFINITION. RESP_FLAGS, the block's only flags (spec/10_state.md R28), and the words that report packed
fields: CAPS, OPM_SIZE (R32) and the channel window (R43). -/

namespace Sys2Proof.Machine

open Sys2Proof

/-- ADDR_CLASS: 0 = UNICAST, 1 = MULTICAST, 2 = BROADCAST; 3 is never written (R28). -/
def AddrClass.code : AddrClass → BitVec 2
  | .unicast => 0#2
  | .multicast => 1#2
  | .broadcast => 2#2

/-- The RESP_FLAGS word of IS_MULTICAST: `(c << 2) | (c == MULTICAST ? 1 : 0)` (R99). -/
def classFlags (c : AddrClass) : Word32 := (c.code.setWidth 32 <<< 2) ||| (if c = .multicast then 1#32 else 0#32)

/-- The RESP_FLAGS word of a RECEIVE: RX_UNIMPL, bit 1 (R28, R127). -/
def rxUnimplFlag : Word32 := 0x00000002#32

/-- The code of a channel state in CH_CTRL[6:4] (R37). -/
def ChState.code : ChState → BitVec 3
  | .unconfigured => 0#3
  | .publisher => 1#3
  | .subscriber => 2#3
  | .publisherSubscriber => 3#3
  | .ready => 4#3
  | .error => 5#3

/-- IFACE_NAME_MODE as CAPS reports it: 0 = CONFIG, 1 = FIXED (R7, R32). -/
def ifaceNameBit : IfaceNameMode → BitVec 1
  | .config => 0#1
  | .fixed _ => 1#1

/-- REG_TRANSITION_MODE as CAPS reports it: 0 = MIRROR, 1 = NONE (R9, R32). -/
def regTransitionBit : RegTransitionMode → BitVec 1
  | .mirror => 0#1
  | .none => 1#1

/-- GROUP_DIGITS_MODE as CAPS reports it: 0 = VALUE_ONLY, 1 = MAX2 (R10, R32). -/
def groupDigitsBit : GroupDigitsMode → BitVec 1
  | .valueOnly => 0#1
  | .max2 => 1#1

/-- TAG_LAYOUT as CAPS reports it: 0 = TCI_FIRST, 1 = TPID_FIRST (R11, R32). -/
def tagLayoutBit : TagLayout → BitVec 1
  | .tciFirst => 0#1
  | .tpidFirst => 1#1

/-- CAPS (R32): NUM_CHANNELS in [7:0], then the four mode bits 8 to 11; bits [31:12] read 0. -/
def capsWord (p : Params) : Word32 :=
  0#20 ++ tagLayoutBit p.tagLayout ++ groupDigitsBit p.groupDigits ++ regTransitionBit p.regTransition
    ++ ifaceNameBit p.ifaceName ++ BitVec.ofNat 8 p.numChannels

/-- OPM_SIZE (R32): OPM_BYTES in [16:0]; bits [31:17] read 0. -/
def opmSizeWord (p : Params) : Word32 := 0#15 ++ BitVec.ofNat 17 p.opmBytes

/-- CH_CTRL (R43): bit 0 = VALID, bits [6:4] = STATE, other bits 0. -/
def chCtrlWord (c : Channel) : Word32 := 0#25 ++ c.state.code ++ 0#3 ++ BitVec.ofBool c.valid

/-- Word `k` (offset `4*k`) of a slot's channel window (R43). -/
def channelWord (c : Channel) (k : Nat) : Word32 :=
  match k with
  | 0 => chCtrlWord c
  | 1 => c.vid.setWidth 32
  | 2 => c.prio.setWidth 32
  | 3 => c.ifh
  | 4 => c.lmac.extractLsb' 16 32
  | 5 => (c.lmac.extractLsb' 0 16).setWidth 32
  | 6 => c.tmac.extractLsb' 16 32
  | 7 => (c.tmac.extractLsb' 0 16).setWidth 32
  | _ => 0#32

end Sys2Proof.Machine
end

