-- ==== Sys2Proof/Machine/Operands.lean ====
section
/-! DEFINITION. Every operand form of the commands (spec/30_encoding.md R75 to R79; spec/20_memory.md R56). -/

namespace Sys2Proof.Machine

open Sys2Proof

/-- `off = d[15:0]`, a zero-extended OPM byte offset (R75). -/
def descOff (d : Word32) : Nat := (d.extractLsb' 0 16).toNat

/-- `len = d[31:16]`, a zero-extended byte length (R75). -/
def descLen (d : Word32) : Nat := (d.extractLsb' 16 16).toNat

/-- The byte list a descriptor names, `MemRead(off, len)` (R56, R75). -/
def State.operand (s : State) (d : Word32) : List Byte := s.memRead (descOff d) (descLen d)

/-- The descriptor lies in OPM: `off + len ≤ OPM_BYTES`, unbounded arithmetic (R56). -/
def State.inRange (s : State) (d : Word32) : Bool := decide (descOff d + descLen d ≤ s.params.opmBytes)

/-- The descriptor check of R74: a descriptor out of range is an OPERAND_RANGE fault. -/
def requireRange (ds : List Word32) (s : State) (k : State → Out) : Out :=
  if ds.all s.inRange then k s else .next (s.commandFault .operandRange)

/-- The descriptors OPEN reads: ARG0, and ARG1 only in CONFIG mode (R76, R79). -/
def State.openDescriptors (s : State) : List Word32 :=
  match s.params.ifaceName with
  | .config => [s.arg0, s.arg1]
  | .fixed _ => [s.arg0]

/-- ADDR_KIND, `ARG2[0]` (R24, R76). -/
def State.addrKind (s : State) : Bool := s.arg2.getLsbD 0

/-- The interface name OPEN resolves (R114). -/
def State.interfaceName (s : State) : List Byte :=
  match s.params.ifaceName with
  | .config => s.operand s.arg1
  | .fixed name => name

/-- IS_MULTICAST's address operand `{ARG0[31:0], ARG1[15:0]}` (R77). -/
def State.macOperand (s : State) : Mac48 := s.arg0 ++ s.arg1.extractLsb' 0 16

/-- RECEIVE's timeout operand, in microseconds. RECEIVE reads it and ignores it (R78). -/
def State.timeoutMicros (s : State) : Nat := s.arg0.toNat

end Sys2Proof.Machine
end

