-- ==== Sys2Proof/Machine/Codec.lean ====
section
/-! DEFINITION. The hardware-address codec and its two commands (spec/40_hwaddr_codec.md R90 to R99). -/

namespace Sys2Proof.Machine

open Sys2Proof

/-- The separator `-` (R90). -/
def separator : Byte := 0x2D#8

/-- The value of a hex digit, upper or lower case; none for every other byte (R90). -/
def hexVal (b : Byte) : Option Nat :=
  if 0x30 ≤ b.toNat ∧ b.toNat ≤ 0x39 then some (b.toNat - 0x30)
  else if 0x41 ≤ b.toNat ∧ b.toNat ≤ 0x46 then some (b.toNat - 0x37)
  else if 0x61 ≤ b.toNat ∧ b.toNat ≤ 0x66 then some (b.toNat - 0x57)
  else none

/-- A maximal run of hex digits from the front of `t`, after a run of value `v` and `d` digits: the value (an exact
natural), the digit count and the text that is left (R91). -/
def scanGroup (t : List Byte) (v d : Nat) : Nat × Nat × List Byte :=
  match t with
  | [] => (v, d, [])
  | b :: rest =>
    match hexVal b with
    | some x => scanGroup rest (v * 16 + x) (d + 1)
    | none => (v, d, b :: rest)

/-- One group of an address text: it is not empty, keeps the digit limit of MAX2 mode (R93) and fits in a byte. -/
def parseGroup (mode : GroupDigitsMode) (t : List Byte) : Option (Byte × List Byte) :=
  match scanGroup t 0 0 with
  | (v, d, rest) =>
    if d = 0 then none
    else if mode = .max2 ∧ 2 < d then none
    else if 255 < v then none
    else some (BitVec.ofNat 8 v, rest)

/-- Skip the separator that follows one of the first five groups (R91). -/
def parseSeparator (t : List Byte) : Option (List Byte) :=
  match t with
  | [] => none
  | b :: rest => if b = separator then some rest else none

/-- A group and the separator after it. -/
def parseGroupThenSeparator (mode : GroupDigitsMode) (t : List Byte) : Option (Byte × List Byte) :=
  match parseGroup mode t with
  | none => none
  | some (b, rest) => (parseSeparator rest).map (fun u => (b, u))

/-- The bytes of `n` groups that are each followed by a separator, and then of a last group with nothing after it. -/
def parseGroups (mode : GroupDigitsMode) (n : Nat) (t : List Byte) : Option (List Byte) :=
  match n with
  | 0 =>
    match parseGroup mode t with
    | some (b, []) => some [b]
    | _ => none
  | k + 1 =>
    match parseGroupThenSeparator mode t with
    | none => none
    | some (b, rest) => (parseGroups mode k rest).map (fun bs => b :: bs)

/-- The mac48 of six bytes, byte 0 most significant (R19, R58). -/
def macOfBytes (b0 b1 b2 b3 b4 b5 : Byte) : Mac48 := b0 ++ b1 ++ b2 ++ b3 ++ b4 ++ b5

/-- `ParseHw(t)` (R91): five groups each with a separator, then a sixth that ends the text. -/
def parseHw (mode : GroupDigitsMode) (t : List Byte) : Option Mac48 :=
  match parseGroups mode 5 t with
  | some [b0, b1, b2, b3, b4, b5] => some (macOfBytes b0 b1 b2 b3 b4 b5)
  | _ => none

/-- Byte `i` of a mac48, byte 0 in bits [47:40] (R19). -/
def macByte (m : Mac48) (i : Nat) : Byte := m.extractLsb' (40 - 8 * i) 8

/-- The upper-case hex digit of a nibble (R94). -/
def hexDigit (n : BitVec 4) : Byte := if n.toNat < 10 then BitVec.ofNat 8 (0x30 + n.toNat) else BitVec.ofNat 8 (0x37 + n.toNat)

/-- A byte as exactly two hex digits, high nibble first (R94). -/
def hexPair (b : Byte) : List Byte := [hexDigit (b.extractLsb' 4 4), hexDigit (b.extractLsb' 0 4)]

/-- `FormatHw(m)`, the canonical 17-byte text (R94). -/
def formatHw (m : Mac48) : List Byte :=
  hexPair (macByte m 0) ++ separator :: (hexPair (macByte m 1) ++ separator :: (hexPair (macByte m 2) ++ separator ::
    (hexPair (macByte m 3) ++ separator :: (hexPair (macByte m 4) ++ separator :: hexPair (macByte m 5)))))

/-- `Classify(m)` (R96): broadcast is tested first, then bit 0 of byte 0. -/
def classify (m : Mac48) : AddrClass :=
  if m = Config.broadcast then .broadcast
  else if m.getLsbD 40 then .multicast
  else .unicast

/-- `IsMulticast(m)` (R97). -/
def isMulticastAddr (m : Mac48) : Bool := decide (classify m = .multicast)

/-- PARSE_HWADDR after its descriptor check (R98). -/
def parseHwaddrBody (s : State) : Out :=
  match parseHw s.params.groupDigits (s.operand s.arg0) with
  | some m => .next ((s.setRespMac m).respond .ok)
  | none => .next (s.respond .invalidAddressFormat)

/-- PARSE_HWADDR (R98). -/
def execParseHwaddr (s : State) : Out := requireRange [s.arg0] s parseHwaddrBody

/-- IS_MULTICAST (R99). -/
def execIsMulticast (s : State) : Out := .next ((s.setRespFlags (classFlags (classify s.macOperand))).respond .ok)

end Sys2Proof.Machine
end

