-- ==== Sys2Proof/Machine/Forward.lean ====
section
/-! DEFINITION. SEND, the frame forwarder and VLAN tagger, and the RECEIVE stub (spec/41_ethernet_channel.md R120 to
R127; spec/20_memory.md R57 to R60). -/

namespace Sys2Proof.Machine

open Sys2Proof

/-- A frame is tagged when the channel's VID is not 0; PRIO alone never tags (R124). -/
def Channel.tagged (c : Channel) : Bool := decide (c.vid ≠ 0#16)

/-- Tag-control information `(VID | (zext_16(PRIO) << 13)) mod 2^16`, unchecked (R121). -/
def Channel.tci (c : Channel) : BitVec 16 := c.vid ||| (c.prio.setWidth 16 <<< Config.prioShift)

/-- A 16-bit value in network byte order: the high byte at the lower offset (R59). -/
def networkBytes (v : BitVec 16) : List Byte := [v.extractLsb' 8 8, v.extractLsb' 0 8]

/-- The four bytes of the tag: the TCI and the inner EtherType 0xB62C, in the order TAG_LAYOUT gives (R122). -/
def tagBytes (layout : TagLayout) (tci : BitVec 16) : List Byte :=
  match layout with
  | .tciFirst => networkBytes tci ++ networkBytes Config.ethertypePubsub
  | .tpidFirst => networkBytes Config.ethertypePubsub ++ networkBytes tci

/-- Where the payload starts in the buffer: after the tag, if there is one (R120). -/
def Channel.payloadBase (c : Channel) : Nat := if c.tagged then Config.vlanTagBytes else 0

/-- The size of the frame buffer: the payload, and 4 bytes more for a tag (R120). -/
def Channel.frameSize (c : Channel) (len : Nat) : Nat := len + c.payloadBase

/-- The EtherType passed to Transmit (R124). -/
def Channel.etherType (c : Channel) : BitVec 16 := if c.tagged then Config.ethertypeVlan else Config.ethertypePubsub

/-- Write the tag, if there is one, at offsets 0 to 3 (R122). -/
def State.writeTag (c : Channel) (s : State) : State :=
  if c.tagged then s.fMemWriteList 0 (tagBytes s.params.tagLayout c.tci) else s

/-- Fill the buffer: the tag, then the payload copied byte for byte (R122, R123). -/
def State.buildFrame (c : Channel) (payload : List Byte) (s : State) : State :=
  (s.writeTag c).fMemWriteList c.payloadBase payload

/-- The status of an answered Transmit (R120, R126). -/
def transmitStatus (x : Answer Unit) : Status :=
  match x with
  | .ok () => .ok
  | .err => .transmitError

/-- SEND once it holds a buffer: fill it, transmit it once, release it on both paths (R120, R125, R126). -/
def sendFrame (c : Channel) (payload : List Byte) (fb : Word32) (s : State) : Out :=
  askTransmit c.ifh fb c.lmac c.tmac c.etherType (s.buildFrame c payload) fun x s1 =>
    askFreeFrame fb s1 fun s2 => .next (s2.respond (transmitStatus x))

/-- SEND from its state check on (R120). -/
def sendBody (c : Channel) (s : State) : Out :=
  requireState [.publisher, .publisherSubscriber] c s fun s =>
    askAllocateFrame (BitVec.ofNat 32 (c.frameSize (descLen s.arg0))) s fun a s1 =>
      match a with
      | .err => .next (s1.respond .outOfMemory)
      | .ok fb => sendFrame c (s1.operand s1.arg0) fb (s1.holdFrame fb (c.frameSize (descLen s1.arg0)))

/-- SEND (R120). -/
def execSend (ch : BitVec 8) (s : State) : Out :=
  requireOpen ch s fun s => requireRange [s.arg0] s fun s => sendBody (s.chan ch.toNat) (s.setRespCh ch.toNat)

/-- RECEIVE from its state check on: success with no data, marked not implemented. It is given its timeout operand and
ignores it (R78, R127). -/
def receiveBody (_timeoutMicros : Nat) (c : Channel) (s : State) : Out :=
  requireState [.publisher, .publisherSubscriber] c s fun s =>
    .next (((s.setRespLen 0#16).setRespFlags rxUnimplFlag).respond .ok)

/-- RECEIVE (R127). -/
def execReceive (ch : BitVec 8) (s : State) : Out :=
  requireOpen ch s fun s => receiveBody s.timeoutMicros (s.chan ch.toNat) (s.setRespCh ch.toNat)

end Sys2Proof.Machine
end

