-- ==== Sys2Proof/Machine/Lifecycle.lean ====
section
/-! DEFINITION. OPEN, REGISTER, UNREGISTER and CLOSE (spec/41_ethernet_channel.md R110 to R119, R128). Every channel
command checks its handle, then its descriptors, writes RESP_CH (R110) and only then runs its body. -/

namespace Sys2Proof.Machine

open Sys2Proof

/-- The record OPEN writes into its slot (R112, R115). -/
def openedChannel (u : UrlParts) (f : IfaceInfo) (tmac : Mac48) : Channel where
  valid := true
  state := .publisher
  vid := u.vid
  prio := u.prio
  ifh := f.ifh
  lmac := f.lmac
  tmac := tmac

/-- OPEN from the interface resolution on: the table is written at the last step only (R112, R115). -/
def openResolve (u : UrlParts) (tmac : Mac48) (n : Nat) (s : State) : Out :=
  askResolveInterface s.interfaceName s fun q s1 =>
    match q with
    | .err => .next (s1.respond .interfaceResolutionError)
    | .ok f => .next (((s1.setChannel n (openedChannel u f tmac)).setRespCh n).respond .ok)

/-- OPEN from the parsed URL on: target parse, then free slot (R112, R113). -/
def openTarget (u : UrlParts) (s : State) : Out :=
  match parseHw s.params.groupDigits u.target with
  | none => .next (s.respond .invalidAddressFormat)
  | some tmac =>
    match s.freeSlot with
    | none => .next (s.respond .outOfMemory)
    | some n => openResolve u tmac n s

/-- OPEN after its descriptor checks (R112). -/
def openBody (s : State) : Out :=
  if s.addrKind then
    askParseEndpointUrl (s.operand s.arg0) s fun r s1 =>
      match r with
      | .err => .next (s1.respond .invalidConfiguration)
      | .ok u => openTarget u s1
  else .next (s.respond .invalidConfiguration)

/-- OPEN (R112). -/
def execOpen (s : State) : Out := requireRange s.openDescriptors s openBody

/-- The state a successful REGISTER leaves in MIRROR mode (R116, R117). -/
def registeredState (st : ChState) : ChState := if st = .publisher then .publisherSubscriber else .subscriber

/-- The state a successful UNREGISTER leaves in MIRROR mode (R118, R119). -/
def unregisteredState (st : ChState) : ChState := if st = .publisherSubscriber then .publisher else .ready

/-- The transition of a successful REGISTER or UNREGISTER: in MIRROR mode only (R117, R119). -/
def State.transition (ch : BitVec 8) (st : ChState) (s : State) : State :=
  match s.params.regTransition with
  | .mirror => s.setChannelState ch.toNat st
  | .none => s

/-- How a REGISTER or UNREGISTER ends once its group work, if any, is answered (R116, R118). -/
def finishGroup (ch : BitVec 8) (st : ChState) (r : Answer Unit) (s : State) : Out :=
  match r with
  | .err => .next (s.respond .internalError)
  | .ok () => .next ((s.transition ch st).respond .ok)

/-- REGISTER from its state check on; `c` is the channel as the command found it (R116). -/
def registerBody (ch : BitVec 8) (c : Channel) (s : State) : Out :=
  requireState [.publisher, .ready] c s fun s =>
    if isMulticastAddr c.tmac then askJoinGroup c.ifh c.tmac s (finishGroup ch (registeredState c.state))
    else finishGroup ch (registeredState c.state) (.ok ()) s

/-- REGISTER (R116). -/
def execRegister (ch : BitVec 8) (s : State) : Out :=
  requireOpen ch s fun s => registerBody ch (s.chan ch.toNat) (s.setRespCh ch.toNat)

/-- UNREGISTER from its state check on (R118). -/
def unregisterBody (ch : BitVec 8) (c : Channel) (s : State) : Out :=
  requireState [.publisherSubscriber, .subscriber] c s fun s =>
    if isMulticastAddr c.tmac then askLeaveGroup c.ifh c.tmac s (finishGroup ch (unregisteredState c.state))
    else finishGroup ch (unregisteredState c.state) (.ok ()) s

/-- UNREGISTER (R118). -/
def execUnregister (ch : BitVec 8) (s : State) : Out :=
  requireOpen ch s fun s => unregisterBody ch (s.chan ch.toNat) (s.setRespCh ch.toNat)

/-- CLOSE (R128): the slot is freed in every state, and no LeaveGroup is sent (R184). -/
def execClose (ch : BitVec 8) (s : State) : Out :=
  requireOpen ch s fun s => .next (((s.setRespCh ch.toNat).setChannel ch.toNat Channel.free).respond .ok)

end Sys2Proof.Machine
end

