-- ==== Sys2Proof/Machine/Dispatch.lean ====
section
/-! DEFINITION. Which meaning each command has: one arm per constructor of Instr. -/

namespace Sys2Proof.Machine

open Sys2Proof

def exec (i : Instr) (s : State) : Host.Outcome State Fault Refusal :=
  match i with
  | .openChannel => Sys2Proof.Machine.execOpen s
  | .register ch => Sys2Proof.Machine.execRegister ch s
  | .unregister ch => Sys2Proof.Machine.execUnregister ch s
  | .send ch => Sys2Proof.Machine.execSend ch s
  | .receive ch => Sys2Proof.Machine.execReceive ch s
  | .close ch => Sys2Proof.Machine.execClose ch s
  | .parseHwaddr => Sys2Proof.Machine.execParseHwaddr s
  | .isMulticast => Sys2Proof.Machine.execIsMulticast s

end Sys2Proof.Machine
end

