-- ==== Sys2Proof/Machine/Access.lean ====
section
/-! DEFINITION. The host port: the address map and its accesses (spec/20_memory.md R51 to R55, R63), and the issuing of
a command by a write to CMD (spec/10_state.md R21, R33; spec/30_encoding.md R74; spec/60_exceptions.md R155). -/

namespace Sys2Proof.Machine

open Sys2Proof

/-- A HOST_ACCESS fault: FAULT_INFO is the host byte address, and RESP_STATUS is not touched (R54, R153, R154). -/
def State.hostAccessFault (a : HostAddr) (s : State) : State := s.raiseFault .hostAccess (a.setWidth 32)

/-- The value of a mapped word of the channel window: 8 words a slot from 0x00100 (R43, R51). -/
def State.windowWord (s : State) (a : Nat) : Option Word32 :=
  if 0x100 ≤ a ∧ a < 0x100 + 0x20 * s.params.numChannels then
    some (channelWord (s.chan ((a - 0x100) / 0x20)) ((a - 0x100) % 0x20 / 4))
  else none

/-- The value of the mapped 32-bit register at a 4-byte-aligned address; none where the map has none (R51). -/
def State.readRegister (s : State) (a : Nat) : Option Word32 :=
  match a with
  | 0x00 => some s.cmd
  | 0x04 => some s.arg0
  | 0x08 => some s.arg1
  | 0x0C => some s.arg2
  | 0x10 => some s.resp.status
  | 0x14 => some s.resp.ch
  | 0x18 => some s.resp.macHi
  | 0x1C => some s.resp.macLo
  | 0x20 => some s.resp.flags
  | 0x24 => some s.resp.len
  | 0x28 => some s.fault
  | 0x2C => some s.faultInfo
  | 0x30 => some (capsWord s.params)
  | 0x34 => some (opmSizeWord s.params)
  | n => s.windowWord n

/-- The OPM offset of a host address, if the address is an OPM byte (R51, R52). -/
def State.opmOffset (s : State) (a : HostAddr) : Option Nat :=
  if 0x10000 ≤ a.toNat ∧ a.toNat < 0x10000 + s.params.opmBytes then some (a.toNat - 0x10000) else none

/-- `HostRead32(a)` (R53, R54): a forbidden read returns 0. -/
def State.hostRead32 (a : HostAddr) (s : State) : State :=
  if a.toNat % 4 = 0 then
    match s.readRegister a.toNat with
    | some v => { s with readData := v }
    | none => { s.hostAccessFault a with readData := 0#32 }
  else { s.hostAccessFault a with readData := 0#32 }

/-- `HostRead8(a)` (R54, R55): a forbidden read returns 0. -/
def State.hostRead8 (a : HostAddr) (s : State) : State :=
  match s.opmOffset a with
  | some i => { s with readData := (s.opmByte i).setWidth 32 }
  | none => { s.hostAccessFault a with readData := 0#32 }

/-- `HostWrite8(a, b)` (R54, R55). -/
def State.hostWrite8 (a : HostAddr) (b : Byte) (s : State) : State :=
  match s.opmOffset a with
  | some i => s.memWrite i b
  | none => s.hostAccessFault a

/-- What every write of a word to CMD does before decoding: CMD holds the word, and the response prologue has run
(R21, R33; assumption log 16). -/
def State.loadCommand (w : Word32) (s : State) : State := State.prologue { s with cmd := w }

/-- A write of a word to CMD issues it as a command (R21, R74): a faulted block answers FAULTED (R155), a word that is
no command is an ILLEGAL_COMMAND fault, and a command executes. -/
def issueCommand (w : Word32) (s : State) : Out :=
  let s := s.loadCommand w
  if s.fault = 0#32 then
    match decode w with
    | .ok i => exec i s
    | .error _ => .next (s.commandFault .illegalCommand)
  else .next (s.respond .faulted)

/-- `HostWrite32(a, v)` (R53, R54): only CMD and ARG0 to ARG2 take a write. Address 0 is aligned, as are 4, 8 and 12,
so a misaligned write is among the forbidden ones (assumption log 18). -/
def hostWrite32 (a : HostAddr) (v : Word32) (s : State) : Out :=
  match a.toNat with
  | 0x00 => issueCommand v s
  | 0x04 => .next { s with arg0 := v }
  | 0x08 => .next { s with arg1 := v }
  | 0x0C => .next { s with arg2 := v }
  | _ => .next (s.hostAccessFault a)

/-- One host access, or the reset input, performed on the block (R17, R64, R175). -/
def perform (op : HostOp) (s : State) : Out :=
  match op with
  | .read32 a => .next (s.hostRead32 a)
  | .write32 a v => hostWrite32 a v s
  | .read8 a => .next (s.hostRead8 a)
  | .write8 a b => .next (s.hostWrite8 a b)
  | .reset => .next s.hardReset

end Sys2Proof.Machine
end

