-- ==== Sys2Proof/Machine/Step.lean ====
section
/-! DEFINITION. The step of the machine: the next thing the HOST does (spec/20_memory.md R64; spec/10_state.md R34). -/

namespace Sys2Proof.Machine

open Sys2Proof

/-- One step: the HOST's next access, a command included, performed whole (R18, R64), or the reset input. With nothing
to perform the block waits and nothing changes (R175; assumption log 2). -/
def step (s : State) : Host.Outcome State Fault Refusal :=
  match s.inputs with
  | [] => .next s
  | op :: rest => perform op { s with inputs := rest }

/-- The machine whose HOST next writes the command word `w` to CMD. EFF-VLAN fetches no instructions: the next
instruction is whatever word the HOST writes next (R34, R67). A block that has recorded a fault still executes
nothing (R155; assumption log 2, 17). -/
def State.withFetchWord (s : State) (nbits w : Nat) : State :=
  { s with inputs := .write32 0x00000#17 (BitVec.ofNat 32 (w % 2 ^ nbits)) :: s.inputs }

end Sys2Proof.Machine
end

