-- ==== Sys2Proof/Machine/HostProgram.lean ====
section
/-! DEFINITION. The spec's notation for host programs: the lines of R82 and the pseudo-instructions of R83
(spec/30_encoding.md), each with the host accesses it stands for. -/

namespace Sys2Proof.Machine

open Sys2Proof

/-- The registers `wr` names (R82). -/
inductive WritableRegister where
  | cmd
  | arg0
  | arg1
  | arg2
  deriving DecidableEq, Repr

/-- `addr(REG)` of R51. -/
def WritableRegister.addr : WritableRegister → HostAddr
  | .cmd => 0x00000#17
  | .arg0 => 0x00004#17
  | .arg1 => 0x00008#17
  | .arg2 => 0x0000C#17

/-- One line of a host program (R82). -/
inductive HostLine where
  /-- `wr REG, imm32` -/
  | wr (r : WritableRegister) (imm : Word32)
  /-- `wb off, [b0, b1, ...]`, and `wb off, "text"` with the text's bytes -/
  | wb (off : Nat) (bytes : List Byte)
  /-- `rd REG`, the register given by its address -/
  | rd (a : HostAddr)
  /-- `cmd MNEMONIC` and `cmd MNEMONIC ch=n` -/
  | cmd (i : Instr)
  deriving DecidableEq, Repr

/-- The host accesses of a `wb` line: one `HostWrite8` a byte, at rising addresses (R82).

DESIGN CHOICE, unsafe (assumption log 19): where `off + i` is 0x10000 or more, `0x10000 + off + i` is no 17-bit host
address and the spec says nothing of the line; the model wraps the address mod 2^17. -/
def writeBytes (off : Nat) (bytes : List Byte) : List HostOp :=
  match bytes with
  | [] => []
  | b :: rest => .write8 (BitVec.ofNat 17 (0x10000 + off)) b :: writeBytes (off + 1) rest

/-- The host accesses a line stands for (R82). -/
def HostLine.ops : HostLine → List HostOp
  | .wr r imm => [.write32 r.addr imm]
  | .wb off bytes => writeBytes off bytes
  | .rd a => [.read32 a]
  | .cmd i => [.write32 0x00000#17 (encode i)]

/-- `desc(off, len)`: `(len << 16) | off` (R83). -/
def desc (off len : BitVec 16) : Word32 := (len.setWidth 32 <<< 16) ||| off.setWidth 32

/-- The pseudo-instructions (R83). -/
inductive Pseudo where
  /-- `open url=(uo,ul) if=(io,il) kind=k` -/
  | openChannel (uo ul io il : BitVec 16) (k : Word32)
  /-- `register ch=n` -/
  | register (n : BitVec 8)
  /-- `unregister ch=n` -/
  | unregister (n : BitVec 8)
  /-- `send ch=n payload=(po,pl)` -/
  | send (n : BitVec 8) (po pl : BitVec 16)
  /-- `receive ch=n timeout=t` -/
  | receive (n : BitVec 8) (t : Word32)
  /-- `close ch=n` -/
  | close (n : BitVec 8)
  /-- `parse text=(to,tl)` -/
  | parse (off len : BitVec 16)
  /-- `ismc mac=m` -/
  | ismc (m : Mac48)
  deriving DecidableEq, Repr

/-- The lines a pseudo-instruction expands to (R83). -/
def Pseudo.expand : Pseudo → List HostLine
  | .openChannel uo ul io il k => [.wr .arg0 (desc uo ul), .wr .arg1 (desc io il), .wr .arg2 k, .cmd .openChannel]
  | .register n => [.cmd (.register n)]
  | .unregister n => [.cmd (.unregister n)]
  | .send n po pl => [.wr .arg0 (desc po pl), .cmd (.send n)]
  | .receive n t => [.wr .arg0 t, .cmd (.receive n)]
  | .close n => [.cmd (.close n)]
  | .parse off len => [.wr .arg0 (desc off len), .cmd .parseHwaddr]
  | .ismc m => [.wr .arg0 (m.extractLsb' 16 32), .wr .arg1 ((m.extractLsb' 0 16).setWidth 32), .cmd .isMulticast]

/-- The host accesses a program of lines stands for, in order. -/
def programOps (lines : List HostLine) : List HostOp := (lines.map HostLine.ops).flatten

end Sys2Proof.Machine
end

