-- ==== Sys2Proof/WellFormed.lean ====
section
/-! DEFINITION. What a well-formed parameter set and a well-formed command are (spec/00_scope.md R5, R6;
spec/30_encoding.md R72). -/

namespace Sys2Proof

/-- The legal ranges of `NUM_CHANNELS` (1 to 255, R5) and `OPM_BYTES` (1 to 65536, R6). -/
abbrev Params.Legal (p : Params) : Prop :=
  1 ≤ p.numChannels ∧ p.numChannels ≤ 255 ∧ 1 ≤ p.opmBytes ∧ p.opmBytes ≤ 65536

/-- A channel command is well formed when the slot it names exists, `CH < NUM_CHANNELS` (R72); a global
command always is. An ill-formed command still decodes and executes: it is a DANGLING_HANDLE fault. -/
abbrev Instr.WellFormed (p : Params) (i : Instr) : Prop :=
  i.isChannelCommand = true → i.chField.toNat < p.numChannels

end Sys2Proof
end

