-- ==== Sys2Proof/Safety.lean ====
section
/-! DEFINITION. What the claims call a good state: the invariant of every state a run reaches (spec/10_state.md R45,
R47; spec/93_implementation_defined.md U2), and what it is for the block not to have faulted (R155). -/

namespace Sys2Proof.Machine

open Sys2Proof

/-- The states an open channel can be in: with MIRROR, PUBLISHER or PUBLISHER_SUBSCRIBER; with NONE, PUBLISHER (R47). -/
def openStates (mode : RegTransitionMode) : List ChState :=
  match mode with
  | .mirror => [.publisher, .publisherSubscriber]
  | .none => [.publisher]

/-- A slot is free with every field 0, or open in a state a command sequence reaches (R47). -/
abbrev Channel.Good (mode : RegTransitionMode) (c : Channel) : Prop :=
  if c.valid then c.state ∈ openStates mode else c = Channel.free

/-- The response registers hold only what the rules write: a status code of R151, a slot index in RESP_CH[7:0], 16 bits
in RESP_MAC_LO, a RESP_FLAGS word of R99 or R127, and a zero RESP_LEN (R25 to R29; U2). -/
abbrev Resp.Good (r : Resp) : Prop :=
  r.status ∈ ([0x00#32, 0x01#32, 0x02#32, 0x03#32, 0x04#32, 0x05#32, 0x06#32, 0x07#32, 0xFE#32, 0xFF#32]) ∧
    r.ch.toNat < 2 ^ 8 ∧ r.macLo.toNat < 2 ^ 16 ∧ r.flags ∈ ([0x0#32, 0x2#32, 0x5#32, 0x8#32]) ∧ r.len = 0#32

/-- FAULT holds no fault or one of the four causes, and without a fault FAULT_INFO is 0 (R30, R31, R153). -/
abbrev State.FaultGood (s : State) : Prop :=
  s.fault ∈ ([0x00#32, 0x01#32, 0x02#32, 0x03#32, 0x04#32]) ∧ (s.fault = 0#32 → s.faultInfo = 0#32)

/-- OPM is in its canonical form and holds only offsets that exist (R52). -/
abbrev State.OpmGood (s : State) : Prop := s.opm.wf = true ∧ ∀ cell ∈ s.opm, cell.1 < s.params.opmBytes

/-- The channel table has NUM_CHANNELS records (R35). -/
abbrev State.TableSized (s : State) : Prop := s.channels.length = s.params.numChannels

/-- The invariant: legal parameters (R5, R6), a table of good records, a good OPM, no frame buffer held between commands
(R45), and registers whose reserved codes and read-as-zero bits are never written (U2). -/
abbrev State.Inv (s : State) : Prop :=
  s.params.Legal ∧ s.TableSized ∧ (∀ c ∈ s.channels, c.Good s.params.regTransition) ∧ s.OpmGood ∧
    s.frame = none ∧ s.resp.Good ∧ s.FaultGood

/-- The block has recorded no fault since reset, so it executes commands (R155). -/
abbrev State.Running (s : State) : Prop := s.fault = 0#32

end Sys2Proof.Machine
end

