-- ==== Sys2Proof/Certificates/Slice0/Obligations.lean ====
section
/-! DEFINITION. The statements about EFF-VLAN, each from the rules of spec/ it names. First the words they are stated
in: what the spec's tables and formulas say, written out here and not taken from the meanings. -/

namespace Sys2Proof.Claims

open Sys2Proof Sys2Proof.Machine

/-- An outcome with its next state changed by `f`. -/
def onNext (f : State → State) : Out → Out
  | .next s => .next (f s)
  | .fault r => .fault r
  | .refused r => .refused r

/-- The response registers after the prologue and one status (R33). -/
def onlyStatus (st : Word32) : Resp := { status := st, ch := 0#32, macHi := 0#32, macLo := 0#32, flags := 0#32, len := 0#32 }

/-- The RESP_* a channel command on `ch` leaves when it changes only RESP_CH and RESP_STATUS (R110). -/
def channelResp (r : Resp) (ch : BitVec 8) (st : Word32) : Resp := { r with ch := ch.setWidth 32, status := st }

/-- The record with every field 0: VALID = 0, STATE = UNCONFIGURED (R48, R128). -/
def zeroRecord : Channel :=
  { valid := false, state := .unconfigured, vid := 0#16, prio := 0#8, ifh := 0#32, lmac := 0#48, tmac := 0#48 }

/-- The slot exists, is open and holds `c` (R72). -/
abbrev OpenSlot (s : State) (ch : BitVec 8) (c : Channel) : Prop :=
  ch.toNat < s.params.numChannels ∧ s.chan ch.toNat = c ∧ c.valid = true

/-- `off + len` of a descriptor is at most OPM_BYTES (R56). -/
abbrev InOpm (s : State) (d : Word32) : Prop :=
  (d.extractLsb' 0 16).toNat + (d.extractLsb' 16 16).toNat ≤ s.params.opmBytes

/-- The bytes a descriptor names: `[OPM[off], ..., OPM[off+len-1]]` (R19, R75). -/
def operandBytes (s : State) (d : Word32) : List Byte :=
  (List.range (d.extractLsb' 16 16).toNat).map (fun k => s.opmByte ((d.extractLsb' 0 16).toNat + k))

/-- The interface name of R114: the ARG1 operand in CONFIG mode, FIXED_IFACE_NAME in FIXED mode. -/
def chosenName (s : State) : List Byte :=
  match s.params.ifaceName with
  | .config => operandBytes s s.arg1
  | .fixed name => name

/-- Multicast-eligible: bit 0 of byte 0 is set and the address is not the broadcast address (R97). -/
abbrev Multicast (m : Mac48) : Prop := m.getLsbD 40 = true ∧ m ≠ 0xFFFFFFFFFFFF#48

/-- The codes of the channel states (R37). -/
def stateCode : ChState → Word32
  | .unconfigured => 0#32
  | .publisher => 1#32
  | .subscriber => 2#32
  | .publisherSubscriber => 3#32
  | .ready => 4#32
  | .error => 5#32

/-- The states a channel command is legal in (R111). -/
def legalStates : Instr → List ChState
  | .openChannel => []
  | .register _ => [.publisher, .ready]
  | .unregister _ => [.publisherSubscriber, .subscriber]
  | .send _ => [.publisher, .publisherSubscriber]
  | .receive _ => [.publisher, .publisherSubscriber]
  | .close _ => [.unconfigured, .publisher, .subscriber, .publisherSubscriber, .ready, .error]
  | .parseHwaddr => []
  | .isMulticast => []

/-- The status codes a command can end with, FAULTED apart (R152). -/
def statusCodes : Instr → List Word32
  | .openChannel => [0x00#32, 0x02#32, 0x01#32, 0x05#32, 0x03#32]
  | .register _ => [0x00#32, 0x04#32, 0x07#32]
  | .unregister _ => [0x00#32, 0x04#32, 0x07#32]
  | .send _ => [0x00#32, 0x04#32, 0x05#32, 0x06#32]
  | .receive _ => [0x00#32, 0x04#32]
  | .close _ => [0x00#32]
  | .parseHwaddr => [0x00#32, 0x01#32]
  | .isMulticast => [0x00#32]

/-- The TCI `(VID | (zext_16(PRIO) << 13)) mod 2^16` on naturals (R121). -/
def tciNat (c : Channel) : Nat := (c.vid.toNat ||| c.prio.toNat <<< 13) % 2 ^ 16

/-- The tag of a frame: nothing when VID is 0, else the TCI and 0xB62C, high bytes first, in TAG_LAYOUT's order
(R59, R122, R124). -/
def tagOf (layout : TagLayout) (c : Channel) : List Byte :=
  if c.vid = 0#16 then []
  else
    let hi := BitVec.ofNat 8 (tciNat c / 256)
    let lo := BitVec.ofNat 8 (tciNat c)
    match layout with
    | .tciFirst => [hi, lo, 0xB6#8, 0x2C#8]
    | .tpidFirst => [0xB6#8, 0x2C#8, hi, lo]

/-- The EtherType of a frame (R124). -/
def frameEtherType (c : Channel) : BitVec 16 := if c.vid = 0#16 then 0xB62C#16 else 0x8100#16

/-- The table after `CH[ch].STATE <- st`, which only MIRROR mode performs (R117, R119). -/
def mirrored (s : State) (ch : BitVec 8) (c : Channel) (st : ChState) : List Channel :=
  match s.params.regTransition with
  | .mirror => s.channels.set ch.toNat { c with state := st }
  | .none => s.channels

/-- The reserved host addresses (R51). -/
abbrev Reserved (p : Params) (a : Nat) : Prop :=
  (0x38 ≤ a ∧ a < 0x100) ∨ (0x100 + 0x20 * p.numChannels ≤ a ∧ a < 0x10000) ∨ 0x10000 + p.opmBytes ≤ a

/-- The addresses of the RO registers and of the channel window (R51). -/
abbrev ReadOnly (p : Params) (a : Nat) : Prop := (0x10 ≤ a ∧ a < 0x38) ∨ (0x100 ≤ a ∧ a < 0x100 + 0x20 * p.numChannels)

/-- The 32-bit reads R54 forbids: reserved, OPM, or misaligned. -/
abbrev ForbiddenRead32 (p : Params) (a : Nat) : Prop := Reserved p a ∨ 0x10000 ≤ a ∨ a % 4 ≠ 0

/-- The 32-bit writes R54 forbids: the same, and RO registers and the channel window. -/
abbrev ForbiddenWrite32 (p : Params) (a : Nat) : Prop := ForbiddenRead32 p a ∨ ReadOnly p a

/-- The byte accesses R54 forbids: reserved, or the register window. -/
abbrev ForbiddenByte (p : Params) (a : Nat) : Prop := Reserved p a ∨ a < 0x10000

/-- The state with a HOST_ACCESS fault recorded, unless one was recorded before (R54, R154). -/
def withHostAccess (s : State) (a : HostAddr) : State :=
  { s with
    fault := if s.fault = 0#32 then 0x04#32 else s.fault
    faultInfo := if s.fault = 0#32 then a.setWidth 32 else s.faultInfo }

/-- CAPS as a number: NUM_CHANNELS in [7:0], then the four mode bits (R32). -/
def capsNat (p : Params) : Nat :=
  p.numChannels + (match p.ifaceName with | .config => 0 | .fixed _ => 2 ^ 8)
    + (match p.regTransition with | .mirror => 0 | .none => 2 ^ 9)
    + (match p.groupDigits with | .valueOnly => 0 | .max2 => 2 ^ 10)
    + (match p.tagLayout with | .tciFirst => 0 | .tpidFirst => 2 ^ 11)

/-- The registers of the map of R51 and what reading each returns (R21 to R32). -/
def registerMap (s : State) : List (HostAddr × Word32) :=
  [(0x00#17, s.cmd), (0x04#17, s.arg0), (0x08#17, s.arg1), (0x0C#17, s.arg2), (0x10#17, s.resp.status),
    (0x14#17, s.resp.ch), (0x18#17, s.resp.macHi), (0x1C#17, s.resp.macLo), (0x20#17, s.resp.flags),
    (0x24#17, s.resp.len), (0x28#17, s.fault), (0x2C#17, s.faultInfo), (0x30#17, BitVec.ofNat 32 (capsNat s.params)),
    (0x34#17, BitVec.ofNat 32 s.params.opmBytes)]

/-- The eight words of a slot's channel window (R43). -/
def windowWords (c : Channel) : List Word32 :=
  [(if c.valid then 1#32 else 0#32) + 16#32 * stateCode c.state, c.vid.setWidth 32, c.prio.setWidth 32, c.ifh,
    c.lmac.extractLsb' 16 32, (c.lmac.extractLsb' 0 16).setWidth 32,
    c.tmac.extractLsb' 16 32, (c.tmac.extractLsb' 0 16).setWidth 32]

/-- The host address of word `k` of slot `n`'s window (R51). -/
def windowAddr (n k : Nat) : HostAddr := BitVec.ofNat 17 (0x100 + 0x20 * n + 4 * k)

/-- The value of a run of hex digits (R91). -/
def groupValue (g : List Byte) : Nat := g.foldl (fun v b => v * 16 + (hexVal b).getD 0) 0

/-- `g` is the text of one group of value `b`: at least one hex digit, no other byte, a value of at most 255, and in
MAX2 mode at most two digits (R91, R93). -/
def IsGroup (mode : GroupDigitsMode) (g : List Byte) (b : Byte) : Prop :=
  g ≠ [] ∧ (∀ x ∈ g, (hexVal x).isSome = true) ∧ groupValue g ≤ 255 ∧ (mode = .max2 → g.length ≤ 2) ∧
    b = BitVec.ofNat 8 (groupValue g)

/-- The scan of a group with a value that saturates at 256 (R91, last paragraph). -/
def scanSaturating (t : List Byte) (v d : Nat) : Nat × Nat × List Byte :=
  match t with
  | [] => (v, d, [])
  | b :: rest =>
    match hexVal b with
    | some x => scanSaturating rest (min (v * 16 + x) 256) (d + 1)
    | none => (v, d, b :: rest)

/-- How many answers of a request kind ENV still gives. -/
def answersLeft (e : EnvAnswers) : EnvRequest → Nat
  | .parseEndpointUrl => e.parseEndpointUrl.length
  | .resolveInterface => e.resolveInterface.length
  | .allocateFrame => e.allocateFrame.length
  | .transmit => e.transmit.length
  | .freeFrame => e.freeFrame.length
  | .joinGroup => e.joinGroup.length
  | .leaveGroup => e.leaveGroup.length

/-- The answers an event history records, request kind by request kind, in order (R168). -/
def recordedAnswers (es : List Event) : EnvAnswers where
  parseEndpointUrl := es.filterMap (fun e => match e with | .parseEndpointUrl _ a => some a | _ => none)
  resolveInterface := es.filterMap (fun e => match e with | .resolveInterface _ a => some a | _ => none)
  allocateFrame := es.filterMap (fun e => match e with | .allocateFrame _ a => some a | _ => none)
  transmit := es.filterMap (fun e => match e with | .transmit _ _ _ _ _ _ a => some a | _ => none)
  freeFrame := es.filterMap (fun e => match e with | .freeFrame _ => some () | _ => none)
  joinGroup := es.filterMap (fun e => match e with | .joinGroup _ _ a => some a | _ => none)
  leaveGroup := es.filterMap (fun e => match e with | .leaveGroup _ _ a => some a | _ => none)

/-- First the answers of `d`, then those of `e`, request kind by request kind. -/
def answersThen (d e : EnvAnswers) : EnvAnswers where
  parseEndpointUrl := d.parseEndpointUrl ++ e.parseEndpointUrl
  resolveInterface := d.resolveInterface ++ e.resolveInterface
  allocateFrame := d.allocateFrame ++ e.allocateFrame
  transmit := d.transmit ++ e.transmit
  freeFrame := d.freeFrame ++ e.freeFrame
  joinGroup := d.joinGroup ++ e.joinGroup
  leaveGroup := d.leaveGroup ++ e.leaveGroup

/-- The configuration fields of a record, which only OPEN and CLOSE write (R44). -/
def configuration (c : Channel) : BitVec 16 × BitVec 8 × Word32 × Mac48 × Mac48 := (c.vid, c.prio, c.ifh, c.lmac, c.tmac)

/-- The state with other argument registers. -/
def withArgs (a b c : Word32) (s : State) : State := { s with arg0 := a, arg1 := b, arg2 := c }

end Sys2Proof.Claims

open Sys2Proof Sys2Proof.Machine Sys2Proof.Claims

/-! Encoding. -/

/-- R70 to R73, R81: a word is a command exactly when it is the command's encoding. So decoding an encoded command gives
it back, with every slot index, and no other word of the 2^32 is a command. -/
def Obligations.DecodeExactlyTheEncodings : Prop := ∀ (w : Word32) (i : Instr), decode w = .ok i ↔ w = encode i

/-- Words written out from R70 and R71: the eight commands, and a word of each illegal kind. -/
def Obligations.SpecWordsDecode : Prop :=
  decode 0x00000001#32 = .ok .openChannel ∧ decode 0x00000702#32 = .ok (.register 7#8) ∧
    decode 0x0000FF03#32 = .ok (.unregister 255#8) ∧ decode 0x00000104#32 = .ok (.send 1#8) ∧
    decode 0x00000805#32 = .ok (.receive 8#8) ∧ decode 0x00008006#32 = .ok (.close 128#8) ∧
    decode 0x00000008#32 = .ok .parseHwaddr ∧ decode 0x00000009#32 = .ok .isMulticast ∧
    decode 0x00000018#32 = .error .reservedBits ∧ decode 0x80000001#32 = .error .reservedBits ∧
    decode 0x00000007#32 = .error .reservedOpcode ∧ decode 0x00000109#32 = .error .channelOnGlobal

/-- R82: the accesses of the `cmd` lines, `HostWrite32(0x00000, OP)` and `HostWrite32(0x00000, (n << 8) | OP)`. -/
def Obligations.CommandLinesWriteTheirWords : Prop :=
  (HostLine.cmd .openChannel).ops = [.write32 0#17 1#32] ∧
    (HostLine.cmd .parseHwaddr).ops = [.write32 0#17 8#32] ∧ (HostLine.cmd .isMulticast).ops = [.write32 0#17 9#32] ∧
    ∀ n : BitVec 8,
      (HostLine.cmd (.register n)).ops = [.write32 0#17 (n.setWidth 32 <<< 8 ||| 2#32)] ∧
      (HostLine.cmd (.unregister n)).ops = [.write32 0#17 (n.setWidth 32 <<< 8 ||| 3#32)] ∧
      (HostLine.cmd (.send n)).ops = [.write32 0#17 (n.setWidth 32 <<< 8 ||| 4#32)] ∧
      (HostLine.cmd (.receive n)).ops = [.write32 0#17 (n.setWidth 32 <<< 8 ||| 5#32)] ∧
      (HostLine.cmd (.close n)).ops = [.write32 0#17 (n.setWidth 32 <<< 8 ||| 6#32)]

/-- R75, R83: the two fields of `desc(off, len)` are the offset and the length a command reads from it. -/
def Obligations.DescriptorFieldsReadBack : Prop :=
  ∀ off len : BitVec 16, descOff (desc off len) = off.toNat ∧ descLen (desc off len) = len.toNat

/-! The step, command issue and faults. -/

/-- When the HOST next writes to CMD a word that decodes to `i` and the block is not faulted, the step is `exec i` on the
state that holds the word in CMD with the response prologue run and that access taken from the HOST's list. -/
def Obligations.StepRunsDecodedCommand : Prop :=
  ∀ (s : State) (w : Word32) (rest : List HostOp) (i : Instr),
    s.inputs = .write32 0#17 w :: rest → s.fault = 0#32 → decode w = .ok i →
    step s = exec i { s with inputs := rest, cmd := w, resp := onlyStatus s.resp.status }

/-- R155: a faulted block stores the word, runs the prologue, answers FAULTED and does nothing else. -/
def Obligations.FaultedBlockAnswersFaulted : Prop :=
  ∀ (s : State) (w : Word32) (rest : List HostOp),
    s.inputs = .write32 0#17 w :: rest → s.fault ≠ 0#32 →
    step s = .next { s with inputs := rest, cmd := w, resp := onlyStatus 0xFF#32 }

/-- R73: a nonzero RSV0 or RSV1 bit is an ILLEGAL_COMMAND fault with FAULT_INFO = w, whatever the OP. -/
def Obligations.ReservedBitsAreIllegal : Prop :=
  ∀ (s : State) (w : Word32) (rest : List HostOp),
    s.inputs = .write32 0#17 w :: rest → s.fault = 0#32 →
    (w.extractLsb' 4 4 ≠ 0#4 ∨ w.extractLsb' 16 16 ≠ 0#16) →
    step s = .next { s with
      inputs := rest, cmd := w, resp := onlyStatus 0xFF#32, fault := 0x01#32, faultInfo := w }

/-- R72, R74, R81: a reserved OP, and a global command with a nonzero CH, are ILLEGAL_COMMAND faults. -/
def Obligations.IllegalOpcodesFault : Prop :=
  ∀ (s : State) (w : Word32) (rest : List HostOp),
    s.inputs = .write32 0#17 w :: rest → s.fault = 0#32 →
    (w.extractLsb' 0 4 ∈ [0x0#4, 0x7#4, 0xA#4, 0xB#4, 0xC#4, 0xD#4, 0xE#4, 0xF#4] ∨
      (w.extractLsb' 0 4 ∈ [0x1#4, 0x8#4, 0x9#4] ∧ w.extractLsb' 8 8 ≠ 0#8)) →
    step s = .next { s with
      inputs := rest, cmd := w, resp := onlyStatus 0xFF#32, fault := 0x01#32, faultInfo := w }

/-- R30, R31, R154, R160: once FAULT is nonzero only the reset input changes FAULT or FAULT_INFO, and FAULT_INFO is never
written without FAULT. -/
def Obligations.FirstFaultIsKept : Prop :=
  ∀ s t : State, step s = .next t → s.inputs.head? ≠ some .reset →
    (s.fault ≠ 0#32 → t.fault = s.fault ∧ t.faultInfo = s.faultInfo) ∧ (t.fault = 0#32 → t.faultInfo = s.faultInfo)

/-- R72, R74, R153, R154: a channel command on a slot that does not exist or is not open is a DANGLING_HANDLE fault with
the CMD word in FAULT_INFO, and has no other effect. -/
def Obligations.DanglingHandleFaults : Prop :=
  ∀ (i : Instr) (s : State), i.isChannelCommand = true → s.fault = 0#32 →
    (s.params.numChannels ≤ i.chField.toNat ∨ (s.chan i.chField.toNat).valid = false) →
    exec i s = .next { s with
      resp := { s.resp with status := 0xFF#32 }, fault := 0x03#32, faultInfo := s.cmd }

/-- R56, R74, R79: OPEN (ARG0, and ARG1 in CONFIG mode), PARSE_HWADDR (ARG0) and SEND on an open slot (ARG0) with a
descriptor out of range are OPERAND_RANGE faults with the CMD word in FAULT_INFO, and have no other effect. -/
def Obligations.OperandRangeFaults : Prop :=
  ∀ (i : Instr) (s : State), s.fault = 0#32 →
    ((i = .openChannel ∧ (¬ InOpm s s.arg0 ∨ (s.params.ifaceName = .config ∧ ¬ InOpm s s.arg1))) ∨
      (i = .parseHwaddr ∧ ¬ InOpm s s.arg0) ∨
      (∃ ch c, i = .send ch ∧ OpenSlot s ch c ∧ ¬ InOpm s s.arg0)) →
    exec i s = .next { s with
      resp := { s.resp with status := 0xFF#32 }, fault := 0x02#32, faultInfo := s.cmd }

/-! The host port. -/

/-- R54: every access it lists is a HOST_ACCESS fault that changes no register but FAULT and FAULT_INFO, no OPM byte and
no channel field; a read returns 0. -/
def Obligations.ForbiddenAccessesFault : Prop :=
  ∀ (s : State) (a : HostAddr) (rest : List HostOp), s.params.Legal →
    (s.inputs = .read32 a :: rest → ForbiddenRead32 s.params a.toNat →
      step s = .next { withHostAccess s a with inputs := rest, readData := 0#32 }) ∧
    (s.inputs = .read8 a :: rest → ForbiddenByte s.params a.toNat →
      step s = .next { withHostAccess s a with inputs := rest, readData := 0#32 }) ∧
    (∀ v, s.inputs = .write32 a v :: rest → ForbiddenWrite32 s.params a.toNat →
      step s = .next { withHostAccess s a with inputs := rest }) ∧
    (∀ b, s.inputs = .write8 a b :: rest → ForbiddenByte s.params a.toNat →
      step s = .next { withHostAccess s a with inputs := rest })

/-- R21 to R32, R51, R53, R63: a 32-bit read of a mapped register returns its value and has no other effect, in a faulted
block too. -/
def Obligations.RegisterReadsReturnValues : Prop :=
  ∀ (s : State) (a : HostAddr) (v : Word32) (rest : List HostOp), s.params.Legal →
    (a, v) ∈ registerMap s → s.inputs = .read32 a :: rest →
    step s = .next { s with inputs := rest, readData := v }

/-- R43: each word of the channel window reads as the field it holds, every other bit 0, and a write to the window is a
HOST_ACCESS fault. -/
def Obligations.ChannelWindowReadsFields : Prop :=
  ∀ (s : State) (n k : Nat) (v : Word32) (rest : List HostOp), s.params.Legal → n < s.params.numChannels →
    (windowWords (s.chan n))[k]? = some v →
    (s.inputs = .read32 (windowAddr n k) :: rest → step s = .next { s with inputs := rest, readData := v }) ∧
    (∀ x, s.inputs = .write32 (windowAddr n k) x :: rest →
      step s = .next { withHostAccess s (windowAddr n k) with inputs := rest })

/-- R55: a byte write sets that OPM byte and no other, a byte read returns it, and neither has another effect; a 32-bit
access of it is a HOST_ACCESS fault. -/
def Obligations.OpmByteAccesses : Prop :=
  ∀ (s : State) (i : Nat) (a : HostAddr) (rest : List HostOp), s.params.Legal → i < s.params.opmBytes →
    a.toNat = 0x10000 + i →
    (∀ b, s.inputs = .write8 a b :: rest →
      ∃ t, step s = .next t ∧ t.opmByte i = b ∧ (∀ j, j ≠ i → t.opmByte j = s.opmByte j) ∧
        t = { s with inputs := rest, opm := t.opm }) ∧
    (s.inputs = .read8 a :: rest → step s = .next { s with inputs := rest, readData := (s.opmByte i).setWidth 32 }) ∧
    (s.inputs = .read32 a :: rest → step s = .next { withHostAccess s a with inputs := rest, readData := 0#32 }) ∧
    (∀ v, s.inputs = .write32 a v :: rest → step s = .next { withHostAccess s a with inputs := rest })

/-- R22, R23, R24, R53: a write of ARG0, ARG1 or ARG2 stores all 32 bits and has no other effect, in a faulted block too. -/
def Obligations.ArgumentWritesStore : Prop :=
  ∀ (s : State) (v : Word32) (rest : List HostOp),
    (s.inputs = .write32 0x04#17 v :: rest → step s = .next { s with inputs := rest, arg0 := v }) ∧
    (s.inputs = .write32 0x08#17 v :: rest → step s = .next { s with inputs := rest, arg1 := v }) ∧
    (s.inputs = .write32 0x0C#17 v :: rest → step s = .next { s with inputs := rest, arg2 := v })

/-! Reset and the invariant. -/

/-- R48: what the reset input sets. CAPS and OPM_SIZE report the parameters, which it leaves. -/
def Obligations.ResetInputSetsRegisters : Prop :=
  ∀ (s : State) (rest : List HostOp), s.inputs = .reset :: rest →
    ∃ t, step s = .next t ∧
      t.cmd = 0#32 ∧ t.arg0 = 0#32 ∧ t.arg1 = 0#32 ∧ t.arg2 = 0#32 ∧
      t.resp = onlyStatus 0xFE#32 ∧ t.fault = 0#32 ∧ t.faultInfo = 0#32 ∧
      t.channels.length = s.params.numChannels ∧ (∀ c ∈ t.channels, c = zeroRecord) ∧ t.params = s.params

/-- R175, R178: the reset input issues no command and sends no ENV request. The model's own choices beside them: the event
history is kept (assumption log 10), OPM lists no written byte and its unwritten bytes are those of the next reset
(assumption log 5, 7), and no frame buffer is held (assumption log 12). -/
def Obligations.ResetInputKeepsEnvironment : Prop :=
  ∀ (s t : State) (rest : List HostOp), s.inputs = .reset :: rest → step s = .next t →
    t.history = s.history ∧ t.env = s.env ∧ t.inputs = rest ∧ t.frame = none ∧
      ∀ i, t.opm.read i = none ∧ t.opmByte i = Config.unwrittenOpm (s.resets + 1) i

/-- R48: the registers and the channel table of the machine right after reset, with the default parameters. The model's own
choices beside them: OPM lists no written byte (assumption log 5) and the event history is empty (assumption log 10). -/
def Obligations.ResetStateValues : Prop :=
  State.reset.cmd = 0#32 ∧ State.reset.arg0 = 0#32 ∧ State.reset.arg1 = 0#32 ∧ State.reset.arg2 = 0#32 ∧
    State.reset.resp = onlyStatus 0xFE#32 ∧ State.reset.fault = 0#32 ∧ State.reset.faultInfo = 0#32 ∧
    State.reset.channels.length = 8 ∧ (∀ c ∈ State.reset.channels, c = zeroRecord) ∧
    (∀ i, State.reset.opm.read i = none) ∧ State.reset.history = []

/-- The invariant holds after reset, whatever legal parameters the block is built with. -/
def Obligations.InvariantHoldsAtReset : Prop :=
  State.reset.Inv ∧ ∀ p : Params, p.Legal → (State.resetWith p).Inv

/-- Every step keeps the invariant: legal parameters, a table of NUM_CHANNELS records that are free and zero or open in
a state of R47, OPM in canonical form within OPM_BYTES, no frame buffer held between commands (R45), and registers that
hold no reserved code and no bit the spec says reads 0. -/
def Obligations.StepKeepsInvariant : Prop := ∀ s t : State, s.Inv → step s = .next t → t.Inv

/-! The hardware-address codec. -/

/-- R90: the separator; the hex digits and their values; every other byte, the separator among them, is no hex digit. -/
def Obligations.HexDigitValues : Prop :=
  separator = 0x2D#8 ∧ ∀ b : Byte,
    (0x30 ≤ b.toNat ∧ b.toNat ≤ 0x39 → hexVal b = some (b.toNat - 0x30)) ∧
    (0x41 ≤ b.toNat ∧ b.toNat ≤ 0x46 → hexVal b = some (b.toNat - 0x37)) ∧
    (0x61 ≤ b.toNat ∧ b.toNat ≤ 0x66 → hexVal b = some (b.toNat - 0x57)) ∧
    (¬ (0x30 ≤ b.toNat ∧ b.toNat ≤ 0x39) ∧ ¬ (0x41 ≤ b.toNat ∧ b.toNat ≤ 0x46) ∧
      ¬ (0x61 ≤ b.toNat ∧ b.toNat ≤ 0x66) → hexVal b = none)

/-- R95: parsing the canonical text of an address gives the address, in both digit modes. -/
def Obligations.ParseOfFormatIsIdentity : Prop :=
  ∀ (mode : GroupDigitsMode) (m : Mac48), parseHw mode (formatHw m) = some m

/-- R91 to R93: `ParseHw` accepts exactly the texts of six groups joined by five hyphens, and gives the address of the
groups' values, the first group in byte 0. -/
def Obligations.ParseAcceptsExactlySixGroups : Prop :=
  ∀ (mode : GroupDigitsMode) (t : List Byte) (m : Mac48),
    parseHw mode t = some m ↔
      ∃ g0 g1 g2 g3 g4 g5 b0 b1 b2 b3 b4 b5,
        IsGroup mode g0 b0 ∧ IsGroup mode g1 b1 ∧ IsGroup mode g2 b2 ∧ IsGroup mode g3 b3 ∧ IsGroup mode g4 b4 ∧
          IsGroup mode g5 b5 ∧
          t = g0 ++ 0x2D#8 :: (g1 ++ 0x2D#8 :: (g2 ++ 0x2D#8 :: (g3 ++ 0x2D#8 :: (g4 ++ 0x2D#8 :: g5)))) ∧
          m = b0 ++ b1 ++ b2 ++ b3 ++ b4 ++ b5

/-- R91, last paragraph: a scan whose value saturates at 256 sees the same digits and the same rest, and its value is the
exact value wherever that is at most 255. -/
def Obligations.SaturatingScanAgrees : Prop :=
  ∀ (t : List Byte) (v d : Nat),
    (scanSaturating t (min v 256) d).1 = min (scanGroup t v d).1 256 ∧
      (scanSaturating t (min v 256) d).2 = (scanGroup t v d).2

/-- R98: PARSE_HWADDR on a descriptor in range completes, with the parsed address or with InvalidAddressFormat, and
changes nothing but RESP_MAC and RESP_STATUS. -/
def Obligations.ParseHwaddrResult : Prop :=
  ∀ s : State, InOpm s s.arg0 →
    (∀ m, parseHw s.params.groupDigits (operandBytes s s.arg0) = some m →
      exec .parseHwaddr s = .next { s with resp := { s.resp with
        macHi := m.extractLsb' 16 32, macLo := (m.extractLsb' 0 16).setWidth 32, status := 0x00#32 } }) ∧
    (parseHw s.params.groupDigits (operandBytes s s.arg0) = none →
      exec .parseHwaddr s = .next { s with resp := { s.resp with status := 0x01#32 } })

/-- R96, R97, R99: IS_MULTICAST completes in every state: RESP_FLAGS reads 8 for the broadcast address, 5 for another
address with bit 0 of byte 0 set, 0 for the rest, and nothing but RESP_FLAGS and RESP_STATUS changes. -/
def Obligations.IsMulticastResult : Prop :=
  ∀ (s : State) (m : Mac48), m = s.arg0 ++ s.arg1.extractLsb' 0 16 →
    exec .isMulticast s = .next { s with resp := { s.resp with
      flags := if m = 0xFFFFFFFFFFFF#48 then 8#32 else if m.getLsbD 40 then 5#32 else 0#32, status := 0x00#32 } }

/-- R77: ARG0 holds bytes 0 to 3 of IS_MULTICAST's operand and ARG1[15:0] bytes 4 and 5; ARG1[31:16] is ignored; and the
two RESP_MAC words a PARSE_HWADDR writes, copied to ARG0 and ARG1, give back the address. -/
def Obligations.MacPackingAgrees : Prop :=
  (∀ s : State, s.macOperand.extractLsb' 16 32 = s.arg0 ∧ s.macOperand.extractLsb' 0 16 = s.arg1.extractLsb' 0 16 ∧
      s.macOperand.extractLsb' 40 8 = s.arg0.extractLsb' 24 8 ∧ s.macOperand.extractLsb' 0 8 = s.arg1.extractLsb' 0 8) ∧
    ∀ (s : State) (m : Mac48) (x : BitVec 16),
      (withArgs (s.setRespMac m).resp.macHi ((s.setRespMac m).resp.macLo ||| (x.setWidth 32 <<< 16)) s.arg2 s).macOperand = m

/-! OPEN. -/

/-- R112, R113, R115: OPEN with everything answered Ok writes the least free slot, in state PUBLISHER, with the URL's VLAN
id and priority, the interface's handle and address and the parsed target, and changes nothing else but RESP_CH,
RESP_STATUS and the two recorded requests. -/
def Obligations.OpenCreatesChannel : Prop :=
  ∀ (s : State) (u : UrlParts) (f : IfaceInfo) (tmac : Mac48) (n : Nat) (urls : List (Answer UrlParts))
    (ifaces : List (Answer IfaceInfo)),
    s.params.Legal → InOpm s s.arg0 → (s.params.ifaceName = .config → InOpm s s.arg1) → s.arg2.getLsbD 0 = true →
    s.env.parseEndpointUrl = .ok u :: urls → parseHw s.params.groupDigits u.target = some tmac →
    n < s.params.numChannels → (s.chan n).valid = false → (∀ j < n, (s.chan j).valid = true) →
    s.env.resolveInterface = .ok f :: ifaces →
    exec .openChannel s = .next { s with
      resp := { s.resp with ch := BitVec.ofNat 32 n, status := 0x00#32 }
      channels := s.channels.set n
        { valid := true, state := .publisher, vid := u.vid, prio := u.prio, ifh := f.ifh, lmac := f.lmac, tmac := tmac }
      history := s.history ++ [.parseEndpointUrl (operandBytes s s.arg0) (.ok u), .resolveInterface (chosenName s) (.ok f)]
      env := { s.env with parseEndpointUrl := urls, resolveInterface := ifaces } }

/-- R112, R113, R115, R156: each failure of OPEN, in its order: its status, the requests sent by then, and nothing else
changed; above all no channel. -/
def Obligations.OpenFailuresChangeNothing : Prop :=
  ∀ (s : State) (urls : List (Answer UrlParts)) (ifaces : List (Answer IfaceInfo)),
    InOpm s s.arg0 → (s.params.ifaceName = .config → InOpm s s.arg1) →
    (s.arg2.getLsbD 0 = false → exec .openChannel s = .next { s with resp := { s.resp with status := 0x02#32 } }) ∧
    (s.arg2.getLsbD 0 = true → s.env.parseEndpointUrl = .err :: urls →
      exec .openChannel s = .next { s with
        resp := { s.resp with status := 0x02#32 }
        history := s.history ++ [.parseEndpointUrl (operandBytes s s.arg0) .err]
        env := { s.env with parseEndpointUrl := urls } }) ∧
    (∀ u, s.arg2.getLsbD 0 = true → s.env.parseEndpointUrl = .ok u :: urls →
      parseHw s.params.groupDigits u.target = none →
      exec .openChannel s = .next { s with
        resp := { s.resp with status := 0x01#32 }
        history := s.history ++ [.parseEndpointUrl (operandBytes s s.arg0) (.ok u)]
        env := { s.env with parseEndpointUrl := urls } }) ∧
    (∀ u tmac, s.arg2.getLsbD 0 = true → s.env.parseEndpointUrl = .ok u :: urls →
      parseHw s.params.groupDigits u.target = some tmac → (∀ j < s.params.numChannels, (s.chan j).valid = true) →
      exec .openChannel s = .next { s with
        resp := { s.resp with status := 0x05#32 }
        history := s.history ++ [.parseEndpointUrl (operandBytes s s.arg0) (.ok u)]
        env := { s.env with parseEndpointUrl := urls } }) ∧
    (∀ u tmac n, s.arg2.getLsbD 0 = true → s.env.parseEndpointUrl = .ok u :: urls →
      parseHw s.params.groupDigits u.target = some tmac → n < s.params.numChannels → (s.chan n).valid = false →
      s.env.resolveInterface = .err :: ifaces →
      exec .openChannel s = .next { s with
        resp := { s.resp with status := 0x03#32 }
        history := s.history ++ [.parseEndpointUrl (operandBytes s s.arg0) (.ok u), .resolveInterface (chosenName s) .err]
        env := { s.env with parseEndpointUrl := urls, resolveInterface := ifaces } })

/-- R114: with CONFIG, OPEN resolves the name in OPM at the ARG1 descriptor; with FIXED, it resolves FIXED_IFACE_NAME
and ignores ARG1. -/
def Obligations.OpenResolvesTheChosenName : Prop :=
  (∀ (s t : State) (es : List Event) (name : List Byte) (a : Answer IfaceInfo),
    exec .openChannel s = .next t → t.history = s.history ++ es → .resolveInterface name a ∈ es →
    (s.params.ifaceName = .config → name = operandBytes s s.arg1) ∧
      ∀ fixedName, s.params.ifaceName = .fixed fixedName → name = fixedName) ∧
  ∀ (s : State) (fixedName : List Byte) (x : Word32), s.params.ifaceName = .fixed fixedName →
    exec .openChannel { s with arg1 := x } = onNext (fun t => { t with arg1 := x }) (exec .openChannel s)

/-! REGISTER and UNREGISTER. -/

/-- R116, R117: REGISTER on an open channel in PUBLISHER or READY: a target that is not multicast asks nothing and
succeeds; a multicast target sends JoinGroup, and succeeds or ends InternalError as it is answered. Success moves the
state in MIRROR mode; nothing else changes but RESP_CH, RESP_STATUS and the recorded request. -/
def Obligations.RegisterResult : Prop :=
  ∀ (s : State) (ch : BitVec 8) (c : Channel) (rest : List (Answer Unit)),
    OpenSlot s ch c → c.state ∈ [.publisher, .ready] →
    (¬ Multicast c.tmac →
      exec (.register ch) s = .next { s with
        resp := channelResp s.resp ch 0x00#32
        channels := mirrored s ch c (if c.state = .publisher then .publisherSubscriber else .subscriber) }) ∧
    (Multicast c.tmac → s.env.joinGroup = .ok () :: rest →
      exec (.register ch) s = .next { s with
        resp := channelResp s.resp ch 0x00#32
        channels := mirrored s ch c (if c.state = .publisher then .publisherSubscriber else .subscriber)
        history := s.history ++ [.joinGroup c.ifh c.tmac (.ok ())]
        env := { s.env with joinGroup := rest } }) ∧
    (Multicast c.tmac → s.env.joinGroup = .err :: rest →
      exec (.register ch) s = .next { s with
        resp := channelResp s.resp ch 0x07#32
        history := s.history ++ [.joinGroup c.ifh c.tmac .err]
        env := { s.env with joinGroup := rest } })

/-- R118, R119: UNREGISTER on an open channel in PUBLISHER_SUBSCRIBER or SUBSCRIBER, likewise with LeaveGroup. -/
def Obligations.UnregisterResult : Prop :=
  ∀ (s : State) (ch : BitVec 8) (c : Channel) (rest : List (Answer Unit)),
    OpenSlot s ch c → c.state ∈ [.publisherSubscriber, .subscriber] →
    (¬ Multicast c.tmac →
      exec (.unregister ch) s = .next { s with
        resp := channelResp s.resp ch 0x00#32
        channels := mirrored s ch c (if c.state = .publisherSubscriber then .publisher else .ready) }) ∧
    (Multicast c.tmac → s.env.leaveGroup = .ok () :: rest →
      exec (.unregister ch) s = .next { s with
        resp := channelResp s.resp ch 0x00#32
        channels := mirrored s ch c (if c.state = .publisherSubscriber then .publisher else .ready)
        history := s.history ++ [.leaveGroup c.ifh c.tmac (.ok ())]
        env := { s.env with leaveGroup := rest } }) ∧
    (Multicast c.tmac → s.env.leaveGroup = .err :: rest →
      exec (.unregister ch) s = .next { s with
        resp := channelResp s.resp ch 0x07#32
        history := s.history ++ [.leaveGroup c.ifh c.tmac .err]
        env := { s.env with leaveGroup := rest } })

/-- R117: a successful REGISTER moves PUBLISHER to PUBLISHER_SUBSCRIBER and READY to SUBSCRIBER in MIRROR mode, whatever
the target; in NONE mode it never writes STATE. -/
def Obligations.RegisterTransition : Prop :=
  ∀ (s t : State) (ch : BitVec 8), exec (.register ch) s = .next t →
    (t.resp.status = 0x00#32 → s.params.regTransition = .mirror →
      ((s.chan ch.toNat).state = .publisher → (t.chan ch.toNat).state = .publisherSubscriber) ∧
      ((s.chan ch.toNat).state = .ready → (t.chan ch.toNat).state = .subscriber)) ∧
    (s.params.regTransition = .none → ∀ n, (t.chan n).state = (s.chan n).state)

/-- R119: a successful UNREGISTER moves PUBLISHER_SUBSCRIBER to PUBLISHER and SUBSCRIBER to READY in MIRROR mode; in NONE
mode it never writes STATE. -/
def Obligations.UnregisterTransition : Prop :=
  ∀ (s t : State) (ch : BitVec 8), exec (.unregister ch) s = .next t →
    (t.resp.status = 0x00#32 → s.params.regTransition = .mirror →
      ((s.chan ch.toNat).state = .publisherSubscriber → (t.chan ch.toNat).state = .publisher) ∧
      ((s.chan ch.toNat).state = .subscriber → (t.chan ch.toNat).state = .ready)) ∧
    (s.params.regTransition = .none → ∀ n, (t.chan n).state = (s.chan n).state)

/-- R119: a successful UNREGISTER after a successful REGISTER of the same channel gives back the channel table. -/
def Obligations.UnregisterUndoesRegister : Prop :=
  ∀ (s t u : State) (ch : BitVec 8), exec (.register ch) s = .next t → t.resp.status = 0x00#32 →
    exec (.unregister ch) t = .next u → u.resp.status = 0x00#32 → u.channels = s.channels

/-! SEND, RECEIVE and CLOSE. -/

/-- R120 to R126: SEND on an open channel in PUBLISHER or PUBLISHER_SUBSCRIBER with a buffer allocated: one Transmit of
exactly the tag, if VID is not 0, and the payload, to the target address with the EtherType R124 gives; then one
FreeFrame; then OK or TransmitError. Nothing else changes but RESP_CH and RESP_STATUS, and no buffer is left held. -/
def Obligations.SendTransmitsFrame : Prop :=
  ∀ (s : State) (ch : BitVec 8) (c : Channel) (fb : Word32) (x : Answer Unit) (allocs : List (Answer Word32))
    (txs : List (Answer Unit)) (frees : List Unit),
    OpenSlot s ch c → c.state ∈ [.publisher, .publisherSubscriber] → InOpm s s.arg0 →
    s.env.allocateFrame = .ok fb :: allocs → s.env.transmit = x :: txs → s.env.freeFrame = () :: frees →
    exec (.send ch) s = .next { s with
      resp := channelResp s.resp ch (if x = .err then 0x06#32 else 0x00#32)
      frame := none
      history := s.history ++ [
        .allocateFrame (BitVec.ofNat 32 ((s.arg0.extractLsb' 16 16).toNat + if c.vid = 0#16 then 0 else 4)) (.ok fb),
        .transmit c.ifh fb c.lmac c.tmac (frameEtherType c) (tagOf s.params.tagLayout c ++ operandBytes s s.arg0) x,
        .freeFrame fb]
      env := { s.env with allocateFrame := allocs, transmit := txs, freeFrame := frees } }

/-- R120, R125: a failed allocation ends OutOfMemory, with no Transmit and no FreeFrame. -/
def Obligations.SendAllocationFailure : Prop :=
  ∀ (s : State) (ch : BitVec 8) (c : Channel) (allocs : List (Answer Word32)),
    OpenSlot s ch c → c.state ∈ [.publisher, .publisherSubscriber] → InOpm s s.arg0 →
    s.env.allocateFrame = .err :: allocs →
    exec (.send ch) s = .next { s with
      resp := channelResp s.resp ch 0x05#32
      history := s.history ++ [
        .allocateFrame (BitVec.ofNat 32 ((s.arg0.extractLsb' 16 16).toNat + if c.vid = 0#16 then 0 else 4)) .err]
      env := { s.env with allocateFrame := allocs } }

/-- R125, R126: whatever a SEND ends with, a successful AllocateFrame is followed by one Transmit and by exactly one
FreeFrame of the same buffer; a failed one by neither; a failed Transmit is TransmitError and is not retried; and no
outcome writes the channel table. -/
def Obligations.SendReleasesEveryBuffer : Prop :=
  ∀ (s t : State) (ch : BitVec 8), exec (.send ch) s = .next t →
    t.channels = s.channels ∧
    ∃ es, t.history = s.history ++ es ∧
      (es = [] ∨ (∃ size, es = [.allocateFrame size .err] ∧ t.resp.status = 0x05#32) ∨
        ∃ size fb ifh src dst et bytes x,
          es = [.allocateFrame size (.ok fb), .transmit ifh fb src dst et bytes x, .freeFrame fb] ∧ t.frame = none ∧
            (x = .err ↔ t.resp.status = 0x06#32) ∧ (x = .ok () ↔ t.resp.status = 0x00#32))

/-- R121: the TCI is the formula, and for VID at most 4095 and PRIO at most 7 its bits [11:0] hold VID, [15:13] hold
PRIO and bit 12 is 0. -/
def Obligations.TagControlFields : Prop :=
  ∀ c : Channel,
    c.tci.toNat = tciNat c ∧
      (c.vid.toNat ≤ 4095 → c.prio.toNat ≤ 7 →
        c.tci.extractLsb' 0 12 = c.vid.extractLsb' 0 12 ∧ c.tci.extractLsb' 13 3 = c.prio.extractLsb' 0 3 ∧
          c.tci.getLsbD 12 = false)

/-- R57, R122, R123: filling a buffer of the frame's size writes every byte of it, so that whatever it held before, it
holds exactly the tag and the payload. -/
def Obligations.FrameBufferIsWrittenWhole : Prop :=
  ∀ (s : State) (c : Channel) (payload : List Byte) (f : FrameBuffer),
    s.frame = some f → f.bytes.length = c.frameSize payload.length →
    s.buildFrame c payload = { s with frame := some { handle := f.handle, bytes := tagOf s.params.tagLayout c ++ payload } }

/-- R78, R127: RECEIVE on an open channel in PUBLISHER or PUBLISHER_SUBSCRIBER completes, with no data and RX_UNIMPL set,
whatever the timeout, and changes nothing but RESP_LEN, RESP_FLAGS, RESP_CH and RESP_STATUS. -/
def Obligations.ReceiveResult : Prop :=
  ∀ (s : State) (ch : BitVec 8) (c : Channel), OpenSlot s ch c → c.state ∈ [.publisher, .publisherSubscriber] →
    exec (.receive ch) s = .next { s with
      resp := { channelResp s.resp ch 0x00#32 with len := 0#32, flags := 0x00000002#32 } }

/-- R128: CLOSE of an open slot completes in every state: every field of the slot is cleared, and nothing else changes
but RESP_CH and RESP_STATUS; no ENV request is sent. -/
def Obligations.CloseResult : Prop :=
  ∀ (s : State) (ch : BitVec 8) (c : Channel), OpenSlot s ch c →
    ∃ t, exec (.close ch) s = .next t ∧
      t.chan ch.toNat = zeroRecord ∧
      (∀ n, n ≠ ch.toNat → t.chan n = s.chan n) ∧
      t = { s with resp := channelResp s.resp ch 0x00#32, channels := t.channels }

/-! Rules over all commands. -/

/-- R111: a channel command outside its legal states ends InvalidState with no other effect; inside them it never ends
InvalidState; CLOSE is legal in every state. -/
def Obligations.StateGating : Prop :=
  ∀ (i : Instr) (s : State) (c : Channel), i.isChannelCommand = true → OpenSlot s i.chField c →
    ((∀ ch, i = .send ch → InOpm s s.arg0) → c.state ∉ legalStates i →
      exec i s = .next { s with resp := channelResp s.resp i.chField 0x04#32 }) ∧
    (c.state ∈ legalStates i → ∀ t, exec i s = .next t → t.resp.status ≠ 0x04#32)

/-- R129: a command that ends with a status other than OK leaves every channel as it was, no command makes a channel
ERROR, and a frame buffer never outlives the command. -/
def Obligations.FailuresKeepChannels : Prop :=
  ∀ (i : Instr) (s t : State), exec i s = .next t →
    (t.resp.status ≠ 0x00#32 → t.channels = s.channels) ∧
    (∀ n, (t.chan n).state = .error → (s.chan n).state = .error) ∧
    (s.frame = none → t.frame = none)

/-- R44: VID, PRIO, IFH, LMAC and TMAC of a slot change only by the OPEN that creates its channel, by the CLOSE that
destroys it, and by the reset input. -/
def Obligations.ConfigurationImmutableWhileOpen : Prop :=
  ∀ (s t : State) (n : Nat), step s = .next t → configuration (t.chan n) ≠ configuration (s.chan n) →
    s.inputs.head? = some .reset ∨
    ∃ w, s.inputs.head? = some (.write32 0#17 w) ∧
      ((decode w = .ok .openChannel ∧ (s.chan n).valid = false ∧ (t.chan n).valid = true) ∨
        (∃ ch : BitVec 8, decode w = .ok (.close ch) ∧ n = ch.toNat ∧ (s.chan n).valid = true ∧ (t.chan n).valid = false))

/-- R169: a channel command neither reads nor writes the record of another slot: with any other record there it does the
same, and leaves that record there. -/
def Obligations.ChannelsAreIndependent : Prop :=
  ∀ (i : Instr) (s : State) (n : Nat) (c : Channel), i.isChannelCommand = true → n ≠ i.chField.toNat →
    exec i (s.setChannel n c) = onNext (State.setChannel n c) (exec i s)

/-- R20, R52: no command writes CMD, ARG0, ARG1, ARG2 or any byte of OPM, nor the parameters, nor what the HOST does
next or last read. -/
def Obligations.CommandsLeaveHostSide : Prop :=
  ∀ (i : Instr) (s t : State), exec i s = .next t →
    t.cmd = s.cmd ∧ t.arg0 = s.arg0 ∧ t.arg1 = s.arg1 ∧ t.arg2 = s.arg2 ∧ (∀ a, t.opmByte a = s.opmByte a) ∧
      t.opm = s.opm ∧ t.params = s.params ∧ t.inputs = s.inputs ∧ t.readData = s.readData ∧ t.resets = s.resets

/-- R98, R99, R127, R128: PARSE_HWADDR, IS_MULTICAST, RECEIVE and CLOSE make no ENV request and hold no buffer, and the
first three leave the channel table. -/
def Obligations.LocalCommandsAskNothing : Prop :=
  ∀ (i : Instr) (s t : State),
    (i = .parseHwaddr ∨ i = .isMulticast ∨ (∃ ch, i = .receive ch) ∨ ∃ ch, i = .close ch) → exec i s = .next t →
    t.history = s.history ∧ t.env = s.env ∧ t.frame = s.frame ∧ ((∀ ch, i ≠ .close ch) → t.channels = s.channels)

/-- R33: after a write to CMD, a response register the command did not write reads 0, a faulted block and an illegal word
included. -/
def Obligations.UnwrittenResponseReadsZero : Prop :=
  ∀ (s t : State) (w : Word32) (rest : List HostOp), s.inputs = .write32 0#17 w :: rest → step s = .next t →
    t.cmd = w ∧ t.resp.len = 0#32 ∧
      (decode w ≠ .ok .parseHwaddr ∨ t.resp.status ≠ 0x00#32 → t.resp.macHi = 0#32 ∧ t.resp.macLo = 0#32) ∧
      (decode w ≠ .ok .isMulticast ∧ (∀ ch, decode w ≠ .ok (.receive ch)) ∨ t.resp.status ≠ 0x00#32 →
        t.resp.flags = 0#32) ∧
      (t.resp.status = 0xFF#32 ∨ decode w = .ok .parseHwaddr ∨ decode w = .ok .isMulticast ∨
        (decode w = .ok .openChannel ∧ t.resp.status ≠ 0x00#32) → t.resp.ch = 0#32)

/-- R168, for a step that serves a host access: the event history only grows, and the answers a step takes from ENV are
exactly the answers it records, in order, request kind by request kind. The statement covers every step, the reset input
too. That a reset input keeps the history (R168 does not say so, and R178 speaks of ENV alone) is the model's own choice,
DESIGN CHOICE of assumption log 10; that ENV's answers stand in the state as lists is that of assumption log 3. -/
def Obligations.HistoryRecordsEveryAnswer : Prop :=
  ∀ s t : State, step s = .next t →
    ∃ es, t.history = s.history ++ es ∧ s.env = answersThen (recordedAnswers es) t.env

/-- R18, R168: a command has no next state only where ENV does not answer a request it makes, and no command is refused;
so with an answer of every kind at hand every command completes. -/
def Obligations.OnlySilenceStopsCommands : Prop :=
  ∀ (i : Instr) (s : State),
    (∀ ρ, exec i s ≠ .refused ρ) ∧
    (∀ r, exec i s = .fault (.envSilent r) → answersLeft s.env r = 0) ∧
    ((∀ r, answersLeft s.env r ≠ 0) → ∃ t, exec i s = .next t)

/-- R168, R185: a request that ENV does not answer leaves EFF stuck: JoinGroup and LeaveGroup of a multicast channel,
AllocateFrame, Transmit and FreeFrame of a SEND, and OPEN's ParseEndpointUrl and ResolveInterface. -/
def Obligations.UnansweredRequestIsStuck : Prop :=
  ∀ (s : State) (ch : BitVec 8) (c : Channel),
    (OpenSlot s ch c → Multicast c.tmac →
      (c.state ∈ legalStates (.register ch) → s.env.joinGroup = [] →
        exec (.register ch) s = .fault (.envSilent .joinGroup)) ∧
      (c.state ∈ legalStates (.unregister ch) → s.env.leaveGroup = [] →
        exec (.unregister ch) s = .fault (.envSilent .leaveGroup))) ∧
    (OpenSlot s ch c → c.state ∈ legalStates (.send ch) → InOpm s s.arg0 →
      (s.env.allocateFrame = [] → exec (.send ch) s = .fault (.envSilent .allocateFrame)) ∧
      (∀ fb allocs, s.env.allocateFrame = .ok fb :: allocs →
        (s.env.transmit = [] → exec (.send ch) s = .fault (.envSilent .transmit)) ∧
        (s.env.transmit ≠ [] → s.env.freeFrame = [] → exec (.send ch) s = .fault (.envSilent .freeFrame)))) ∧
    (InOpm s s.arg0 → (s.params.ifaceName = .config → InOpm s s.arg1) → s.arg2.getLsbD 0 = true →
      (s.env.parseEndpointUrl = [] → exec .openChannel s = .fault (.envSilent .parseEndpointUrl)) ∧
      (∀ u urls tmac n, s.env.parseEndpointUrl = .ok u :: urls → parseHw s.params.groupDigits u.target = some tmac →
        n < s.params.numChannels → (s.chan n).valid = false → s.env.resolveInterface = [] →
        exec .openChannel s = .fault (.envSilent .resolveInterface)))

/-- R151, R152: the status a command ends with is one of its own or FAULTED; no other code is written. -/
def Obligations.StatusCodesByCommand : Prop :=
  ∀ (i : Instr) (s t : State), exec i s = .next t → t.resp.status ∈ 0xFF#32 :: statusCodes i

/-- R24, R77, R78, R79: an argument register, or a part of one, that a command does not read is ignored and not checked:
with any value there the command does the same. -/
def Obligations.UnreadArgumentsIgnored : Prop :=
  ∀ (s : State) (a b c : Word32) (ch : BitVec 8),
    (∀ i ∈ [Instr.register ch, .unregister ch, .receive ch, .close ch],
      exec i (withArgs a b c s) = onNext (withArgs a b c) (exec i s)) ∧
    (∀ i ∈ [Instr.send ch, .parseHwaddr],
      exec i (withArgs s.arg0 b c s) = onNext (withArgs s.arg0 b c) (exec i s)) ∧
    (b.extractLsb' 0 16 = s.arg1.extractLsb' 0 16 →
      exec .isMulticast (withArgs s.arg0 b c s) = onNext (withArgs s.arg0 b c) (exec .isMulticast s)) ∧
    (c.getLsbD 0 = s.arg2.getLsbD 0 →
      exec .openChannel (withArgs s.arg0 s.arg1 c s) = onNext (withArgs s.arg0 s.arg1 c) (exec .openChannel s))
end

