-- ==== Sys2Proof/Laws/State.lean ====
section
/-! SUPPORT. One lemma per field per update of State, each true by rfl, so that no later proof unfolds an update. -/

namespace Sys2Proof.Machine

open Sys2Proof

variable (s : State)

/-! `State.respond` -/

@[simp] theorem State.respond_params (st : Status) : (s.respond st).params = s.params := rfl
@[simp] theorem State.respond_cmd (st : Status) : (s.respond st).cmd = s.cmd := rfl
@[simp] theorem State.respond_arg0 (st : Status) : (s.respond st).arg0 = s.arg0 := rfl
@[simp] theorem State.respond_arg1 (st : Status) : (s.respond st).arg1 = s.arg1 := rfl
@[simp] theorem State.respond_arg2 (st : Status) : (s.respond st).arg2 = s.arg2 := rfl
@[simp] theorem State.respond_resp (st : Status) : (s.respond st).resp = { s.resp with status := st.code } := rfl
@[simp] theorem State.respond_fault (st : Status) : (s.respond st).fault = s.fault := rfl
@[simp] theorem State.respond_faultInfo (st : Status) : (s.respond st).faultInfo = s.faultInfo := rfl
@[simp] theorem State.respond_channels (st : Status) : (s.respond st).channels = s.channels := rfl
@[simp] theorem State.respond_opm (st : Status) : (s.respond st).opm = s.opm := rfl
@[simp] theorem State.respond_frame (st : Status) : (s.respond st).frame = s.frame := rfl
@[simp] theorem State.respond_history (st : Status) : (s.respond st).history = s.history := rfl
@[simp] theorem State.respond_resets (st : Status) : (s.respond st).resets = s.resets := rfl
@[simp] theorem State.respond_env (st : Status) : (s.respond st).env = s.env := rfl
@[simp] theorem State.respond_inputs (st : Status) : (s.respond st).inputs = s.inputs := rfl
@[simp] theorem State.respond_readData (st : Status) : (s.respond st).readData = s.readData := rfl

/-! `State.setRespCh` -/

@[simp] theorem State.setRespCh_params (n : Nat) : (s.setRespCh n).params = s.params := rfl
@[simp] theorem State.setRespCh_cmd (n : Nat) : (s.setRespCh n).cmd = s.cmd := rfl
@[simp] theorem State.setRespCh_arg0 (n : Nat) : (s.setRespCh n).arg0 = s.arg0 := rfl
@[simp] theorem State.setRespCh_arg1 (n : Nat) : (s.setRespCh n).arg1 = s.arg1 := rfl
@[simp] theorem State.setRespCh_arg2 (n : Nat) : (s.setRespCh n).arg2 = s.arg2 := rfl
@[simp] theorem State.setRespCh_resp (n : Nat) : (s.setRespCh n).resp = { s.resp with ch := (BitVec.ofNat 8 n).setWidth 32 } := rfl
@[simp] theorem State.setRespCh_fault (n : Nat) : (s.setRespCh n).fault = s.fault := rfl
@[simp] theorem State.setRespCh_faultInfo (n : Nat) : (s.setRespCh n).faultInfo = s.faultInfo := rfl
@[simp] theorem State.setRespCh_channels (n : Nat) : (s.setRespCh n).channels = s.channels := rfl
@[simp] theorem State.setRespCh_opm (n : Nat) : (s.setRespCh n).opm = s.opm := rfl
@[simp] theorem State.setRespCh_frame (n : Nat) : (s.setRespCh n).frame = s.frame := rfl
@[simp] theorem State.setRespCh_history (n : Nat) : (s.setRespCh n).history = s.history := rfl
@[simp] theorem State.setRespCh_resets (n : Nat) : (s.setRespCh n).resets = s.resets := rfl
@[simp] theorem State.setRespCh_env (n : Nat) : (s.setRespCh n).env = s.env := rfl
@[simp] theorem State.setRespCh_inputs (n : Nat) : (s.setRespCh n).inputs = s.inputs := rfl
@[simp] theorem State.setRespCh_readData (n : Nat) : (s.setRespCh n).readData = s.readData := rfl

/-! `State.setRespMac` -/

@[simp] theorem State.setRespMac_params (m : Mac48) : (s.setRespMac m).params = s.params := rfl
@[simp] theorem State.setRespMac_cmd (m : Mac48) : (s.setRespMac m).cmd = s.cmd := rfl
@[simp] theorem State.setRespMac_arg0 (m : Mac48) : (s.setRespMac m).arg0 = s.arg0 := rfl
@[simp] theorem State.setRespMac_arg1 (m : Mac48) : (s.setRespMac m).arg1 = s.arg1 := rfl
@[simp] theorem State.setRespMac_arg2 (m : Mac48) : (s.setRespMac m).arg2 = s.arg2 := rfl
@[simp] theorem State.setRespMac_resp (m : Mac48) : (s.setRespMac m).resp = { s.resp with macHi := m.extractLsb' 16 32, macLo := (m.extractLsb' 0 16).setWidth 32 } := rfl
@[simp] theorem State.setRespMac_fault (m : Mac48) : (s.setRespMac m).fault = s.fault := rfl
@[simp] theorem State.setRespMac_faultInfo (m : Mac48) : (s.setRespMac m).faultInfo = s.faultInfo := rfl
@[simp] theorem State.setRespMac_channels (m : Mac48) : (s.setRespMac m).channels = s.channels := rfl
@[simp] theorem State.setRespMac_opm (m : Mac48) : (s.setRespMac m).opm = s.opm := rfl
@[simp] theorem State.setRespMac_frame (m : Mac48) : (s.setRespMac m).frame = s.frame := rfl
@[simp] theorem State.setRespMac_history (m : Mac48) : (s.setRespMac m).history = s.history := rfl
@[simp] theorem State.setRespMac_resets (m : Mac48) : (s.setRespMac m).resets = s.resets := rfl
@[simp] theorem State.setRespMac_env (m : Mac48) : (s.setRespMac m).env = s.env := rfl
@[simp] theorem State.setRespMac_inputs (m : Mac48) : (s.setRespMac m).inputs = s.inputs := rfl
@[simp] theorem State.setRespMac_readData (m : Mac48) : (s.setRespMac m).readData = s.readData := rfl

/-! `State.setRespFlags` -/

@[simp] theorem State.setRespFlags_params (w : Word32) : (s.setRespFlags w).params = s.params := rfl
@[simp] theorem State.setRespFlags_cmd (w : Word32) : (s.setRespFlags w).cmd = s.cmd := rfl
@[simp] theorem State.setRespFlags_arg0 (w : Word32) : (s.setRespFlags w).arg0 = s.arg0 := rfl
@[simp] theorem State.setRespFlags_arg1 (w : Word32) : (s.setRespFlags w).arg1 = s.arg1 := rfl
@[simp] theorem State.setRespFlags_arg2 (w : Word32) : (s.setRespFlags w).arg2 = s.arg2 := rfl
@[simp] theorem State.setRespFlags_resp (w : Word32) : (s.setRespFlags w).resp = { s.resp with flags := w } := rfl
@[simp] theorem State.setRespFlags_fault (w : Word32) : (s.setRespFlags w).fault = s.fault := rfl
@[simp] theorem State.setRespFlags_faultInfo (w : Word32) : (s.setRespFlags w).faultInfo = s.faultInfo := rfl
@[simp] theorem State.setRespFlags_channels (w : Word32) : (s.setRespFlags w).channels = s.channels := rfl
@[simp] theorem State.setRespFlags_opm (w : Word32) : (s.setRespFlags w).opm = s.opm := rfl
@[simp] theorem State.setRespFlags_frame (w : Word32) : (s.setRespFlags w).frame = s.frame := rfl
@[simp] theorem State.setRespFlags_history (w : Word32) : (s.setRespFlags w).history = s.history := rfl
@[simp] theorem State.setRespFlags_resets (w : Word32) : (s.setRespFlags w).resets = s.resets := rfl
@[simp] theorem State.setRespFlags_env (w : Word32) : (s.setRespFlags w).env = s.env := rfl
@[simp] theorem State.setRespFlags_inputs (w : Word32) : (s.setRespFlags w).inputs = s.inputs := rfl
@[simp] theorem State.setRespFlags_readData (w : Word32) : (s.setRespFlags w).readData = s.readData := rfl

/-! `State.setRespLen` -/

@[simp] theorem State.setRespLen_params (n : BitVec 16) : (s.setRespLen n).params = s.params := rfl
@[simp] theorem State.setRespLen_cmd (n : BitVec 16) : (s.setRespLen n).cmd = s.cmd := rfl
@[simp] theorem State.setRespLen_arg0 (n : BitVec 16) : (s.setRespLen n).arg0 = s.arg0 := rfl
@[simp] theorem State.setRespLen_arg1 (n : BitVec 16) : (s.setRespLen n).arg1 = s.arg1 := rfl
@[simp] theorem State.setRespLen_arg2 (n : BitVec 16) : (s.setRespLen n).arg2 = s.arg2 := rfl
@[simp] theorem State.setRespLen_resp (n : BitVec 16) : (s.setRespLen n).resp = { s.resp with len := n.setWidth 32 } := rfl
@[simp] theorem State.setRespLen_fault (n : BitVec 16) : (s.setRespLen n).fault = s.fault := rfl
@[simp] theorem State.setRespLen_faultInfo (n : BitVec 16) : (s.setRespLen n).faultInfo = s.faultInfo := rfl
@[simp] theorem State.setRespLen_channels (n : BitVec 16) : (s.setRespLen n).channels = s.channels := rfl
@[simp] theorem State.setRespLen_opm (n : BitVec 16) : (s.setRespLen n).opm = s.opm := rfl
@[simp] theorem State.setRespLen_frame (n : BitVec 16) : (s.setRespLen n).frame = s.frame := rfl
@[simp] theorem State.setRespLen_history (n : BitVec 16) : (s.setRespLen n).history = s.history := rfl
@[simp] theorem State.setRespLen_resets (n : BitVec 16) : (s.setRespLen n).resets = s.resets := rfl
@[simp] theorem State.setRespLen_env (n : BitVec 16) : (s.setRespLen n).env = s.env := rfl
@[simp] theorem State.setRespLen_inputs (n : BitVec 16) : (s.setRespLen n).inputs = s.inputs := rfl
@[simp] theorem State.setRespLen_readData (n : BitVec 16) : (s.setRespLen n).readData = s.readData := rfl

/-! `State.prologue` -/

@[simp] theorem State.prologue_params : s.prologue.params = s.params := rfl
@[simp] theorem State.prologue_cmd : s.prologue.cmd = s.cmd := rfl
@[simp] theorem State.prologue_arg0 : s.prologue.arg0 = s.arg0 := rfl
@[simp] theorem State.prologue_arg1 : s.prologue.arg1 = s.arg1 := rfl
@[simp] theorem State.prologue_arg2 : s.prologue.arg2 = s.arg2 := rfl
@[simp] theorem State.prologue_resp : s.prologue.resp = { status := s.resp.status, ch := 0#32, macHi := 0#32, macLo := 0#32, flags := 0#32, len := 0#32 } := rfl
@[simp] theorem State.prologue_fault : s.prologue.fault = s.fault := rfl
@[simp] theorem State.prologue_faultInfo : s.prologue.faultInfo = s.faultInfo := rfl
@[simp] theorem State.prologue_channels : s.prologue.channels = s.channels := rfl
@[simp] theorem State.prologue_opm : s.prologue.opm = s.opm := rfl
@[simp] theorem State.prologue_frame : s.prologue.frame = s.frame := rfl
@[simp] theorem State.prologue_history : s.prologue.history = s.history := rfl
@[simp] theorem State.prologue_resets : s.prologue.resets = s.resets := rfl
@[simp] theorem State.prologue_env : s.prologue.env = s.env := rfl
@[simp] theorem State.prologue_inputs : s.prologue.inputs = s.inputs := rfl
@[simp] theorem State.prologue_readData : s.prologue.readData = s.readData := rfl

/-! `State.loadCommand` -/

@[simp] theorem State.loadCommand_params (w : Word32) : (s.loadCommand w).params = s.params := rfl
@[simp] theorem State.loadCommand_cmd (w : Word32) : (s.loadCommand w).cmd = w := rfl
@[simp] theorem State.loadCommand_arg0 (w : Word32) : (s.loadCommand w).arg0 = s.arg0 := rfl
@[simp] theorem State.loadCommand_arg1 (w : Word32) : (s.loadCommand w).arg1 = s.arg1 := rfl
@[simp] theorem State.loadCommand_arg2 (w : Word32) : (s.loadCommand w).arg2 = s.arg2 := rfl
@[simp] theorem State.loadCommand_resp (w : Word32) : (s.loadCommand w).resp = { status := s.resp.status, ch := 0#32, macHi := 0#32, macLo := 0#32, flags := 0#32, len := 0#32 } := rfl
@[simp] theorem State.loadCommand_fault (w : Word32) : (s.loadCommand w).fault = s.fault := rfl
@[simp] theorem State.loadCommand_faultInfo (w : Word32) : (s.loadCommand w).faultInfo = s.faultInfo := rfl
@[simp] theorem State.loadCommand_channels (w : Word32) : (s.loadCommand w).channels = s.channels := rfl
@[simp] theorem State.loadCommand_opm (w : Word32) : (s.loadCommand w).opm = s.opm := rfl
@[simp] theorem State.loadCommand_frame (w : Word32) : (s.loadCommand w).frame = s.frame := rfl
@[simp] theorem State.loadCommand_history (w : Word32) : (s.loadCommand w).history = s.history := rfl
@[simp] theorem State.loadCommand_resets (w : Word32) : (s.loadCommand w).resets = s.resets := rfl
@[simp] theorem State.loadCommand_env (w : Word32) : (s.loadCommand w).env = s.env := rfl
@[simp] theorem State.loadCommand_inputs (w : Word32) : (s.loadCommand w).inputs = s.inputs := rfl
@[simp] theorem State.loadCommand_readData (w : Word32) : (s.loadCommand w).readData = s.readData := rfl

/-! `State.memWrite` -/

@[simp] theorem State.memWrite_params (i : Nat) (b : Byte) : (s.memWrite i b).params = s.params := rfl
@[simp] theorem State.memWrite_cmd (i : Nat) (b : Byte) : (s.memWrite i b).cmd = s.cmd := rfl
@[simp] theorem State.memWrite_arg0 (i : Nat) (b : Byte) : (s.memWrite i b).arg0 = s.arg0 := rfl
@[simp] theorem State.memWrite_arg1 (i : Nat) (b : Byte) : (s.memWrite i b).arg1 = s.arg1 := rfl
@[simp] theorem State.memWrite_arg2 (i : Nat) (b : Byte) : (s.memWrite i b).arg2 = s.arg2 := rfl
@[simp] theorem State.memWrite_resp (i : Nat) (b : Byte) : (s.memWrite i b).resp = s.resp := rfl
@[simp] theorem State.memWrite_fault (i : Nat) (b : Byte) : (s.memWrite i b).fault = s.fault := rfl
@[simp] theorem State.memWrite_faultInfo (i : Nat) (b : Byte) : (s.memWrite i b).faultInfo = s.faultInfo := rfl
@[simp] theorem State.memWrite_channels (i : Nat) (b : Byte) : (s.memWrite i b).channels = s.channels := rfl
@[simp] theorem State.memWrite_opm (i : Nat) (b : Byte) : (s.memWrite i b).opm = s.opm.write i b := rfl
@[simp] theorem State.memWrite_frame (i : Nat) (b : Byte) : (s.memWrite i b).frame = s.frame := rfl
@[simp] theorem State.memWrite_history (i : Nat) (b : Byte) : (s.memWrite i b).history = s.history := rfl
@[simp] theorem State.memWrite_resets (i : Nat) (b : Byte) : (s.memWrite i b).resets = s.resets := rfl
@[simp] theorem State.memWrite_env (i : Nat) (b : Byte) : (s.memWrite i b).env = s.env := rfl
@[simp] theorem State.memWrite_inputs (i : Nat) (b : Byte) : (s.memWrite i b).inputs = s.inputs := rfl
@[simp] theorem State.memWrite_readData (i : Nat) (b : Byte) : (s.memWrite i b).readData = s.readData := rfl

/-! `State.setChannel` -/

@[simp] theorem State.setChannel_params (n : Nat) (c : Channel) : (s.setChannel n c).params = s.params := rfl
@[simp] theorem State.setChannel_cmd (n : Nat) (c : Channel) : (s.setChannel n c).cmd = s.cmd := rfl
@[simp] theorem State.setChannel_arg0 (n : Nat) (c : Channel) : (s.setChannel n c).arg0 = s.arg0 := rfl
@[simp] theorem State.setChannel_arg1 (n : Nat) (c : Channel) : (s.setChannel n c).arg1 = s.arg1 := rfl
@[simp] theorem State.setChannel_arg2 (n : Nat) (c : Channel) : (s.setChannel n c).arg2 = s.arg2 := rfl
@[simp] theorem State.setChannel_resp (n : Nat) (c : Channel) : (s.setChannel n c).resp = s.resp := rfl
@[simp] theorem State.setChannel_fault (n : Nat) (c : Channel) : (s.setChannel n c).fault = s.fault := rfl
@[simp] theorem State.setChannel_faultInfo (n : Nat) (c : Channel) : (s.setChannel n c).faultInfo = s.faultInfo := rfl
@[simp] theorem State.setChannel_channels (n : Nat) (c : Channel) : (s.setChannel n c).channels = s.channels.set n c := rfl
@[simp] theorem State.setChannel_opm (n : Nat) (c : Channel) : (s.setChannel n c).opm = s.opm := rfl
@[simp] theorem State.setChannel_frame (n : Nat) (c : Channel) : (s.setChannel n c).frame = s.frame := rfl
@[simp] theorem State.setChannel_history (n : Nat) (c : Channel) : (s.setChannel n c).history = s.history := rfl
@[simp] theorem State.setChannel_resets (n : Nat) (c : Channel) : (s.setChannel n c).resets = s.resets := rfl
@[simp] theorem State.setChannel_env (n : Nat) (c : Channel) : (s.setChannel n c).env = s.env := rfl
@[simp] theorem State.setChannel_inputs (n : Nat) (c : Channel) : (s.setChannel n c).inputs = s.inputs := rfl
@[simp] theorem State.setChannel_readData (n : Nat) (c : Channel) : (s.setChannel n c).readData = s.readData := rfl

/-! `State.holdFrame` -/

@[simp] theorem State.holdFrame_params (fb : Word32) (size : Nat) : (s.holdFrame fb size).params = s.params := rfl
@[simp] theorem State.holdFrame_cmd (fb : Word32) (size : Nat) : (s.holdFrame fb size).cmd = s.cmd := rfl
@[simp] theorem State.holdFrame_arg0 (fb : Word32) (size : Nat) : (s.holdFrame fb size).arg0 = s.arg0 := rfl
@[simp] theorem State.holdFrame_arg1 (fb : Word32) (size : Nat) : (s.holdFrame fb size).arg1 = s.arg1 := rfl
@[simp] theorem State.holdFrame_arg2 (fb : Word32) (size : Nat) : (s.holdFrame fb size).arg2 = s.arg2 := rfl
@[simp] theorem State.holdFrame_resp (fb : Word32) (size : Nat) : (s.holdFrame fb size).resp = s.resp := rfl
@[simp] theorem State.holdFrame_fault (fb : Word32) (size : Nat) : (s.holdFrame fb size).fault = s.fault := rfl
@[simp] theorem State.holdFrame_faultInfo (fb : Word32) (size : Nat) : (s.holdFrame fb size).faultInfo = s.faultInfo := rfl
@[simp] theorem State.holdFrame_channels (fb : Word32) (size : Nat) : (s.holdFrame fb size).channels = s.channels := rfl
@[simp] theorem State.holdFrame_opm (fb : Word32) (size : Nat) : (s.holdFrame fb size).opm = s.opm := rfl
@[simp] theorem State.holdFrame_frame (fb : Word32) (size : Nat) : (s.holdFrame fb size).frame = some { handle := fb, bytes := (List.range size).map (Config.freshFrameByte s.history.length) } := rfl
@[simp] theorem State.holdFrame_history (fb : Word32) (size : Nat) : (s.holdFrame fb size).history = s.history := rfl
@[simp] theorem State.holdFrame_resets (fb : Word32) (size : Nat) : (s.holdFrame fb size).resets = s.resets := rfl
@[simp] theorem State.holdFrame_env (fb : Word32) (size : Nat) : (s.holdFrame fb size).env = s.env := rfl
@[simp] theorem State.holdFrame_inputs (fb : Word32) (size : Nat) : (s.holdFrame fb size).inputs = s.inputs := rfl
@[simp] theorem State.holdFrame_readData (fb : Word32) (size : Nat) : (s.holdFrame fb size).readData = s.readData := rfl

/-! `State.fMemWrite` -/

@[simp] theorem State.fMemWrite_params (off : Nat) (b : Byte) : (s.fMemWrite off b).params = s.params := rfl
@[simp] theorem State.fMemWrite_cmd (off : Nat) (b : Byte) : (s.fMemWrite off b).cmd = s.cmd := rfl
@[simp] theorem State.fMemWrite_arg0 (off : Nat) (b : Byte) : (s.fMemWrite off b).arg0 = s.arg0 := rfl
@[simp] theorem State.fMemWrite_arg1 (off : Nat) (b : Byte) : (s.fMemWrite off b).arg1 = s.arg1 := rfl
@[simp] theorem State.fMemWrite_arg2 (off : Nat) (b : Byte) : (s.fMemWrite off b).arg2 = s.arg2 := rfl
@[simp] theorem State.fMemWrite_resp (off : Nat) (b : Byte) : (s.fMemWrite off b).resp = s.resp := rfl
@[simp] theorem State.fMemWrite_fault (off : Nat) (b : Byte) : (s.fMemWrite off b).fault = s.fault := rfl
@[simp] theorem State.fMemWrite_faultInfo (off : Nat) (b : Byte) : (s.fMemWrite off b).faultInfo = s.faultInfo := rfl
@[simp] theorem State.fMemWrite_channels (off : Nat) (b : Byte) : (s.fMemWrite off b).channels = s.channels := rfl
@[simp] theorem State.fMemWrite_opm (off : Nat) (b : Byte) : (s.fMemWrite off b).opm = s.opm := rfl
@[simp] theorem State.fMemWrite_frame (off : Nat) (b : Byte) : (s.fMemWrite off b).frame = s.frame.map (fun f => { f with bytes := f.bytes.set off b }) := rfl
@[simp] theorem State.fMemWrite_history (off : Nat) (b : Byte) : (s.fMemWrite off b).history = s.history := rfl
@[simp] theorem State.fMemWrite_resets (off : Nat) (b : Byte) : (s.fMemWrite off b).resets = s.resets := rfl
@[simp] theorem State.fMemWrite_env (off : Nat) (b : Byte) : (s.fMemWrite off b).env = s.env := rfl
@[simp] theorem State.fMemWrite_inputs (off : Nat) (b : Byte) : (s.fMemWrite off b).inputs = s.inputs := rfl
@[simp] theorem State.fMemWrite_readData (off : Nat) (b : Byte) : (s.fMemWrite off b).readData = s.readData := rfl

/-! `State.dropFrame` -/

@[simp] theorem State.dropFrame_params : s.dropFrame.params = s.params := rfl
@[simp] theorem State.dropFrame_cmd : s.dropFrame.cmd = s.cmd := rfl
@[simp] theorem State.dropFrame_arg0 : s.dropFrame.arg0 = s.arg0 := rfl
@[simp] theorem State.dropFrame_arg1 : s.dropFrame.arg1 = s.arg1 := rfl
@[simp] theorem State.dropFrame_arg2 : s.dropFrame.arg2 = s.arg2 := rfl
@[simp] theorem State.dropFrame_resp : s.dropFrame.resp = s.resp := rfl
@[simp] theorem State.dropFrame_fault : s.dropFrame.fault = s.fault := rfl
@[simp] theorem State.dropFrame_faultInfo : s.dropFrame.faultInfo = s.faultInfo := rfl
@[simp] theorem State.dropFrame_channels : s.dropFrame.channels = s.channels := rfl
@[simp] theorem State.dropFrame_opm : s.dropFrame.opm = s.opm := rfl
@[simp] theorem State.dropFrame_frame : s.dropFrame.frame = none := rfl
@[simp] theorem State.dropFrame_history : s.dropFrame.history = s.history := rfl
@[simp] theorem State.dropFrame_resets : s.dropFrame.resets = s.resets := rfl
@[simp] theorem State.dropFrame_env : s.dropFrame.env = s.env := rfl
@[simp] theorem State.dropFrame_inputs : s.dropFrame.inputs = s.inputs := rfl
@[simp] theorem State.dropFrame_readData : s.dropFrame.readData = s.readData := rfl

/-! `State.answered` -/

@[simp] theorem State.answered_params (env : EnvAnswers) (e : Event) : (s.answered env e).params = s.params := rfl
@[simp] theorem State.answered_cmd (env : EnvAnswers) (e : Event) : (s.answered env e).cmd = s.cmd := rfl
@[simp] theorem State.answered_arg0 (env : EnvAnswers) (e : Event) : (s.answered env e).arg0 = s.arg0 := rfl
@[simp] theorem State.answered_arg1 (env : EnvAnswers) (e : Event) : (s.answered env e).arg1 = s.arg1 := rfl
@[simp] theorem State.answered_arg2 (env : EnvAnswers) (e : Event) : (s.answered env e).arg2 = s.arg2 := rfl
@[simp] theorem State.answered_resp (env : EnvAnswers) (e : Event) : (s.answered env e).resp = s.resp := rfl
@[simp] theorem State.answered_fault (env : EnvAnswers) (e : Event) : (s.answered env e).fault = s.fault := rfl
@[simp] theorem State.answered_faultInfo (env : EnvAnswers) (e : Event) : (s.answered env e).faultInfo = s.faultInfo := rfl
@[simp] theorem State.answered_channels (env : EnvAnswers) (e : Event) : (s.answered env e).channels = s.channels := rfl
@[simp] theorem State.answered_opm (env : EnvAnswers) (e : Event) : (s.answered env e).opm = s.opm := rfl
@[simp] theorem State.answered_frame (env : EnvAnswers) (e : Event) : (s.answered env e).frame = s.frame := rfl
@[simp] theorem State.answered_history (env : EnvAnswers) (e : Event) : (s.answered env e).history = s.history ++ [e] := rfl
@[simp] theorem State.answered_resets (env : EnvAnswers) (e : Event) : (s.answered env e).resets = s.resets := rfl
@[simp] theorem State.answered_env (env : EnvAnswers) (e : Event) : (s.answered env e).env = env := rfl
@[simp] theorem State.answered_inputs (env : EnvAnswers) (e : Event) : (s.answered env e).inputs = s.inputs := rfl
@[simp] theorem State.answered_readData (env : EnvAnswers) (e : Event) : (s.answered env e).readData = s.readData := rfl

/-! `State.hardReset` -/

@[simp] theorem State.hardReset_params : s.hardReset.params = s.params := rfl
@[simp] theorem State.hardReset_cmd : s.hardReset.cmd = 0#32 := rfl
@[simp] theorem State.hardReset_arg0 : s.hardReset.arg0 = 0#32 := rfl
@[simp] theorem State.hardReset_arg1 : s.hardReset.arg1 = 0#32 := rfl
@[simp] theorem State.hardReset_arg2 : s.hardReset.arg2 = 0#32 := rfl
@[simp] theorem State.hardReset_resp : s.hardReset.resp = { status := 0xFE#32, ch := 0#32, macHi := 0#32, macLo := 0#32, flags := 0#32, len := 0#32 } := rfl
@[simp] theorem State.hardReset_fault : s.hardReset.fault = 0#32 := rfl
@[simp] theorem State.hardReset_faultInfo : s.hardReset.faultInfo = 0#32 := rfl
@[simp] theorem State.hardReset_channels : s.hardReset.channels = List.replicate s.params.numChannels Channel.free := rfl
@[simp] theorem State.hardReset_opm : s.hardReset.opm = [] := rfl
@[simp] theorem State.hardReset_frame : s.hardReset.frame = none := rfl
@[simp] theorem State.hardReset_history : s.hardReset.history = s.history := rfl
@[simp] theorem State.hardReset_resets : s.hardReset.resets = s.resets + 1 := rfl
@[simp] theorem State.hardReset_env : s.hardReset.env = s.env := rfl
@[simp] theorem State.hardReset_inputs : s.hardReset.inputs = s.inputs := rfl
@[simp] theorem State.hardReset_readData : s.hardReset.readData = 0#32 := rfl

end Sys2Proof.Machine
end

