-- ==== Sys2Proof/Laws/Memory.lean ====
section
/-! SUPPORT. The laws of operand memory: a read after a write, and the canonical form every write keeps. -/

namespace Sys2Proof.Machine

open Sys2Proof

@[simp] theorem Memory.read_nil (i : Nat) : Memory.read [] i = none := rfl

@[simp] theorem Memory.wf_nil : Memory.wf [] = true := rfl

@[simp] theorem Memory.read_write_same (m : Memory) (i : Nat) (b : Byte) : (m.write i b).read i = some b := by
  induction m with
  | nil => simp [Memory.write, Memory.read]
  | cons hd tl ih =>
    obtain ⟨a, c⟩ := hd
    simp only [Memory.write]
    split
    · simp [Memory.read]
    · split
      · simp [Memory.read]
      · next _ hne => simp [Memory.read, Ne.symm hne, ih]

theorem Memory.read_write_other (m : Memory) (i j : Nat) (b : Byte) (h : j ≠ i) : (m.write i b).read j = m.read j := by
  induction m with
  | nil => simp [Memory.write, Memory.read, Ne.symm h]
  | cons hd tl ih =>
    obtain ⟨a, c⟩ := hd
    simp only [Memory.write]
    split
    · simp [Memory.read, Ne.symm h]
    · split
      · next _ heq => subst heq; simp [Memory.read, Ne.symm h]
      · simp [Memory.read, ih]

/-- A write lists its own offset and what was listed. -/
theorem Memory.mem_write {m : Memory} {i : Nat} {b : Byte} {cell : Host.Cell} (h : cell ∈ m.write i b) :
    cell = (i, b) ∨ cell ∈ m := by
  induction m with
  | nil => simpa [Memory.write] using h
  | cons hd tl ih =>
    obtain ⟨a, c⟩ := hd
    simp only [Memory.write] at h
    split at h
    · simpa using h
    · split at h
      · rcases List.mem_cons.mp h with h | h
        · exact .inl h
        · exact .inr (List.mem_cons_of_mem _ h)
      · rcases List.mem_cons.mp h with h | h
        · exact .inr (by simp [h])
        · exact (ih h).imp id (List.mem_cons_of_mem _)

/-- Every write keeps the canonical form. -/
theorem Memory.write_wf (m : Memory) (i : Nat) (b : Byte) (h : m.wf = true) : (m.write i b).wf = true := by
  induction m with
  | nil => simp [Memory.write, Memory.wf]
  | cons hd tl ih =>
    obtain ⟨a, c⟩ := hd
    simp only [Memory.wf, Bool.and_eq_true, List.all_eq_true, decide_eq_true_eq] at h
    obtain ⟨hlow, htl⟩ := h
    simp only [Memory.write]
    split
    · next hlt =>
      simp only [Memory.wf, Bool.and_eq_true, List.all_eq_true, decide_eq_true_eq]
      refine ⟨fun cell hc => ?_, hlow, htl⟩
      rcases List.mem_cons.mp hc with rfl | hc
      · exact hlt
      · exact lt_trans hlt (hlow cell hc)
    · split
      · next _ heq =>
        subst heq
        simpa only [Memory.wf, Bool.and_eq_true, List.all_eq_true, decide_eq_true_eq] using ⟨hlow, htl⟩
      · next hnl hne =>
        simp only [Memory.wf, Bool.and_eq_true, List.all_eq_true, decide_eq_true_eq]
        refine ⟨fun cell hc => ?_, ih htl⟩
        rcases Memory.mem_write hc with rfl | hc
        · simp only; omega
        · exact hlow cell hc

/-- `OPM[i]` depends on the written bytes and on how many resets there have been, nothing else. -/
theorem State.opmByte_congr {s t : State} (ho : t.opm = s.opm) (hr : t.resets = s.resets) (i : Nat) :
    t.opmByte i = s.opmByte i := by simp [State.opmByte, ho, hr]

theorem State.memRead_congr {s t : State} (ho : t.opm = s.opm) (hr : t.resets = s.resets) (off len : Nat) :
    t.memRead off len = s.memRead off len := by simp [State.memRead, State.opmByte_congr ho hr]

theorem State.operand_congr {s t : State} (ho : t.opm = s.opm) (hr : t.resets = s.resets) (d : Word32) :
    t.operand d = s.operand d := by simp [State.operand, State.memRead_congr ho hr]

@[simp] theorem State.opmByte_memWrite_same (s : State) (i : Nat) (b : Byte) : (s.memWrite i b).opmByte i = b := by
  simp [State.opmByte]

theorem State.opmByte_memWrite_other (s : State) (i j : Nat) (b : Byte) (h : j ≠ i) :
    (s.memWrite i b).opmByte j = s.opmByte j := by
  simp [State.opmByte, Memory.read_write_other _ _ _ _ h]

@[simp] theorem State.memRead_length (s : State) (off len : Nat) : (s.memRead off len).length = len := by
  simp [State.memRead]

@[simp] theorem State.operand_length (s : State) (d : Word32) : (s.operand d).length = descLen d := by
  simp [State.operand]

/-- Every byte an operand reads has been written by the HOST since reset. -/
theorem State.opmByte_of_read {s : State} {i : Nat} {b : Byte} (h : s.opm.read i = some b) : s.opmByte i = b := by
  simp [State.opmByte, h]

end Sys2Proof.Machine
end

