-- ==== Sys2Proof/Laws/Ops.lean ====
section
/-! SUPPORT. For each shared operation, once, everything it can do: what a proof cites instead of unfolding it. -/

namespace Sys2Proof.Machine

open Sys2Proof

variable {s t : State} {k : State → Out}

/-! Channel table. -/

theorem State.chan_of_lt (s : State) {n : Nat} (h : n < s.channels.length) : s.chan n = s.channels[n] := by
  simp [State.chan, h]

theorem State.chan_congr (h : t.channels = s.channels) (n : Nat) : t.chan n = s.chan n := by simp [State.chan, h]

theorem State.chan_setChannel_same (s : State) {n : Nat} (c : Channel) (h : n < s.channels.length) :
    (s.setChannel n c).chan n = c := by simp [State.chan, h]

theorem State.chan_setChannel_other (s : State) {n j : Nat} (c : Channel) (h : j ≠ n) :
    (s.setChannel n c).chan j = s.chan j := by simp [State.chan, List.getD_eq_getElem?_getD, Ne.symm h]

/-- A slot that a write to the table does not reach, or the record written. -/
theorem State.chan_setChannel_cases (s : State) (n j : Nat) (c : Channel) :
    (s.setChannel n c).chan j = s.chan j ∨ (j = n ∧ n < s.channels.length ∧ (s.setChannel n c).chan j = c) := by
  by_cases hj : j = n
  · subst hj
    by_cases hl : j < s.channels.length
    · exact .inr ⟨rfl, hl, s.chan_setChannel_same c hl⟩
    · left
      simp [State.chan, List.getD_eq_getElem?_getD, hl]
  · exact .inl (s.chan_setChannel_other c hj)

/-- A slot of the table that is valid is in the table. -/
theorem State.lt_length_of_valid {n : Nat} (h : (s.chan n).valid = true) : n < s.channels.length := by
  by_contra hc
  simp [State.chan, List.getD_eq_getElem?_getD, List.getElem?_eq_none (not_lt.mp hc), Channel.free] at h

theorem State.slotOpen_iff (s : State) (ch : BitVec 8) :
    s.slotOpen ch = true ↔ ch.toNat < s.params.numChannels ∧ (s.chan ch.toNat).valid = true := by
  simp [State.slotOpen]

theorem State.slotOpen_congr (hp : t.params = s.params) (hc : t.channels = s.channels) (ch : BitVec 8) :
    t.slotOpen ch = s.slotOpen ch := by simp [State.slotOpen, hp, State.chan_congr hc]

/-- OPEN's slot is the least free one. -/
theorem State.freeSlot_eq_some_iff (s : State) (n : Nat) :
    s.freeSlot = some n ↔ n < s.params.numChannels ∧ (s.chan n).valid = false ∧ ∀ j < n, (s.chan j).valid = true := by
  simp only [State.freeSlot, List.find?_range_eq_some]
  simp only [Bool.not_eq_true', List.mem_range, Bool.not_not]
  tauto

theorem State.freeSlot_eq_none_iff (s : State) :
    s.freeSlot = none ↔ ∀ j < s.params.numChannels, (s.chan j).valid = true := by
  simp [State.freeSlot]

theorem State.freeSlot_congr (hp : t.params = s.params) (hc : t.channels = s.channels) : t.freeSlot = s.freeSlot := by
  simp [State.freeSlot, hp, State.chan_congr hc]

/-! An answered ENV request leaves what the rest of the command reads. -/

@[simp] theorem State.freeSlot_answered (s : State) (env : EnvAnswers) (e : Event) :
    (s.answered env e).freeSlot = s.freeSlot := rfl

@[simp] theorem State.chan_answered (s : State) (env : EnvAnswers) (e : Event) (n : Nat) :
    (s.answered env e).chan n = s.chan n := rfl

@[simp] theorem State.operand_answered (s : State) (env : EnvAnswers) (e : Event) (d : Word32) :
    (s.answered env e).operand d = s.operand d := rfl

@[simp] theorem State.interfaceName_answered (s : State) (env : EnvAnswers) (e : Event) :
    (s.answered env e).interfaceName = s.interfaceName := rfl

/-! Faults. -/

/-- The first fault is recorded, a later one is not. -/
theorem State.raiseFault_cases (s : State) (cause : FaultCause) (info : Word32) :
    (s.fault = 0#32 ∧ s.raiseFault cause info = { s with fault := cause.code, faultInfo := info }) ∨
      (s.fault ≠ 0#32 ∧ s.raiseFault cause info = s) := by
  by_cases h : s.fault = 0#32
  · exact .inl ⟨h, by simp [State.raiseFault, h]⟩
  · exact .inr ⟨h, by simp [State.raiseFault, h]⟩

/-- What a command fault leaves. -/
theorem State.commandFault_cases (s : State) (cause : FaultCause) :
    (s.fault = 0#32 ∧ s.commandFault cause =
        { s with fault := cause.code, faultInfo := s.cmd, resp := { s.resp with status := 0xFF#32 } }) ∨
      (s.fault ≠ 0#32 ∧ s.commandFault cause = { s with resp := { s.resp with status := 0xFF#32 } }) := by
  rcases s.raiseFault_cases cause s.cmd with ⟨h, e⟩ | ⟨h, e⟩
  · exact .inl ⟨h, by simp [State.commandFault, e, State.respond, Status.code]⟩
  · exact .inr ⟨h, by simp [State.commandFault, e, State.respond, Status.code]⟩

/-- A command fault changes FAULT, FAULT_INFO and RESP_STATUS, nothing else. -/
theorem State.commandFault_eq (s : State) (cause : FaultCause) :
    s.commandFault cause = { s with
      fault := if s.fault = 0#32 then cause.code else s.fault
      faultInfo := if s.fault = 0#32 then s.cmd else s.faultInfo
      resp := { s.resp with status := 0xFF#32 } } := by
  rcases s.commandFault_cases cause with ⟨h, e⟩ | ⟨h, e⟩ <;> simp [e, h]

/-- A HOST_ACCESS fault changes FAULT and FAULT_INFO, nothing else. -/
theorem State.hostAccessFault_eq (s : State) (a : HostAddr) :
    s.hostAccessFault a = { s with
      fault := if s.fault = 0#32 then 4#32 else s.fault
      faultInfo := if s.fault = 0#32 then a.setWidth 32 else s.faultInfo } := by
  rcases s.raiseFault_cases .hostAccess (a.setWidth 32) with ⟨h, e⟩ | ⟨h, e⟩ <;>
    simp [State.hostAccessFault, e, h, FaultCause.code]

/-! The checks that stand before a command's body. -/

theorem requireOpen_of_open {ch : BitVec 8} (h : s.slotOpen ch = true) : requireOpen ch s k = k s := by
  simp [requireOpen, h]

theorem requireOpen_of_not_open {ch : BitVec 8} (h : s.slotOpen ch = false) :
    requireOpen ch s k = .next (s.commandFault .danglingHandle) := by simp [requireOpen, h]

theorem requireOpen_next {ch : BitVec 8} (h : requireOpen ch s k = .next t) :
    (s.slotOpen ch = true ∧ k s = .next t) ∨ (s.slotOpen ch = false ∧ t = s.commandFault .danglingHandle) := by
  by_cases ho : s.slotOpen ch = true
  · exact .inl ⟨ho, by simpa [requireOpen, ho] using h⟩
  · rw [Bool.not_eq_true] at ho
    exact .inr ⟨ho, by simpa [requireOpen, ho, eq_comm] using h⟩

theorem requireRange_of_inRange {ds : List Word32} (h : ds.all s.inRange = true) : requireRange ds s k = k s := by
  simp only [requireRange, h, if_true]

theorem requireRange_of_not_inRange {ds : List Word32} (h : ds.all s.inRange = false) :
    requireRange ds s k = .next (s.commandFault .operandRange) := by
  simp only [requireRange, h, Bool.false_eq_true, if_false]

theorem requireRange_next {ds : List Word32} (h : requireRange ds s k = .next t) :
    (ds.all s.inRange = true ∧ k s = .next t) ∨ (ds.all s.inRange = false ∧ t = s.commandFault .operandRange) := by
  by_cases hr : ds.all s.inRange = true
  · exact .inl ⟨hr, by rwa [requireRange_of_inRange hr] at h⟩
  · rw [Bool.not_eq_true] at hr
    rw [requireRange_of_not_inRange hr] at h
    exact .inr ⟨hr, by simpa [eq_comm] using h⟩

theorem requireState_of_mem {legal : List ChState} {c : Channel} (h : c.state ∈ legal) :
    requireState legal c s k = k s := by simp [requireState, h]

theorem requireState_of_not_mem {legal : List ChState} {c : Channel} (h : c.state ∉ legal) :
    requireState legal c s k = .next (s.respond .invalidState) := by simp [requireState, h]

theorem requireState_next {legal : List ChState} {c : Channel} (h : requireState legal c s k = .next t) :
    (c.state ∈ legal ∧ k s = .next t) ∨ (c.state ∉ legal ∧ t = s.respond .invalidState) := by
  by_cases hc : c.state ∈ legal
  · exact .inl ⟨hc, by simpa [requireState, hc] using h⟩
  · exact .inr ⟨hc, by simpa [requireState, hc, eq_comm] using h⟩

/-! ENV requests: each takes the next answer of its kind and records it. -/

theorem askParseEndpointUrl_next {url : List Byte} {k : Answer UrlParts → State → Out}
    (h : askParseEndpointUrl url s k = .next t) : ∃ a rest, s.env.parseEndpointUrl = a :: rest ∧
      k a (s.answered { s.env with parseEndpointUrl := rest } (.parseEndpointUrl url a)) = .next t := by
  unfold askParseEndpointUrl at h
  split at h
  · cases h
  · next a rest he => exact ⟨a, rest, he, h⟩

theorem askResolveInterface_next {name : List Byte} {k : Answer IfaceInfo → State → Out}
    (h : askResolveInterface name s k = .next t) : ∃ a rest, s.env.resolveInterface = a :: rest ∧
      k a (s.answered { s.env with resolveInterface := rest } (.resolveInterface name a)) = .next t := by
  unfold askResolveInterface at h
  split at h
  · cases h
  · next a rest he => exact ⟨a, rest, he, h⟩

theorem askAllocateFrame_next {size : Word32} {k : Answer Word32 → State → Out}
    (h : askAllocateFrame size s k = .next t) : ∃ a rest, s.env.allocateFrame = a :: rest ∧
      k a (s.answered { s.env with allocateFrame := rest } (.allocateFrame size a)) = .next t := by
  unfold askAllocateFrame at h
  split at h
  · cases h
  · next a rest he => exact ⟨a, rest, he, h⟩

theorem askTransmit_next {ifh fb : Word32} {src dst : Mac48} {et : BitVec 16} {k : Answer Unit → State → Out}
    (h : askTransmit ifh fb src dst et s k = .next t) : ∃ a rest, s.env.transmit = a :: rest ∧
      k a (s.answered { s.env with transmit := rest } (.transmit ifh fb src dst et s.frameBytes a)) = .next t := by
  unfold askTransmit at h
  split at h
  · cases h
  · next a rest he => exact ⟨a, rest, he, h⟩

theorem askFreeFrame_next {fb : Word32} (h : askFreeFrame fb s k = .next t) : ∃ u rest, s.env.freeFrame = u :: rest ∧
      k (s.answered { s.env with freeFrame := rest } (.freeFrame fb)).dropFrame = .next t := by
  unfold askFreeFrame at h
  split at h
  · cases h
  · next u rest he => exact ⟨u, rest, he, h⟩

theorem askJoinGroup_next {ifh : Word32} {mac : Mac48} {k : Answer Unit → State → Out}
    (h : askJoinGroup ifh mac s k = .next t) : ∃ a rest, s.env.joinGroup = a :: rest ∧
      k a (s.answered { s.env with joinGroup := rest } (.joinGroup ifh mac a)) = .next t := by
  unfold askJoinGroup at h
  split at h
  · cases h
  · next a rest he => exact ⟨a, rest, he, h⟩

theorem askLeaveGroup_next {ifh : Word32} {mac : Mac48} {k : Answer Unit → State → Out}
    (h : askLeaveGroup ifh mac s k = .next t) : ∃ a rest, s.env.leaveGroup = a :: rest ∧
      k a (s.answered { s.env with leaveGroup := rest } (.leaveGroup ifh mac a)) = .next t := by
  unfold askLeaveGroup at h
  split at h
  · cases h
  · next a rest he => exact ⟨a, rest, he, h⟩

/-! REGISTER's and UNREGISTER's end. -/

/-- A transition writes the table in MIRROR mode only. -/
theorem State.transition_eq (s : State) (ch : BitVec 8) (st : ChState) :
    s.transition ch st = { s with channels :=
      match s.params.regTransition with
      | .mirror => s.channels.set ch.toNat { s.chan ch.toNat with state := st }
      | .none => s.channels } := by
  unfold State.transition
  split <;> simp_all [State.setChannelState, State.setChannel]

theorem finishGroup_next {ch : BitVec 8} {st : ChState} {r : Answer Unit} (h : finishGroup ch st r s = .next t) :
    (r = .err ∧ t = s.respond .internalError) ∨ (r = .ok () ∧ t = (s.transition ch st).respond .ok) := by
  cases r with
  | err => left; simpa [finishGroup, eq_comm] using h
  | ok u => right; simpa [finishGroup, eq_comm] using h

/-! The frame buffer. -/

/-- Writing a list into the buffer changes the buffer's bytes only. -/
theorem State.fMemWriteList_eq (s : State) (off : Nat) (bs : List Byte) :
    ∃ f : List Byte → List Byte, s.fMemWriteList off bs = 
      { s with frame := s.frame.map (fun b : FrameBuffer => { b with bytes := f b.bytes }) } := by
  induction bs generalizing s off with
  | nil => exact ⟨id, by cases h : s.frame <;> cases s <;> simp_all [State.fMemWriteList]⟩
  | cons b rest ih =>
    obtain ⟨f, hf⟩ := ih (s.fMemWrite off b) (off + 1)
    refine ⟨fun bytes => f (bytes.set off b), ?_⟩
    rw [State.fMemWriteList, hf]
    simp [State.fMemWrite, Function.comp_def]

/-- Filling the buffer changes the buffer only. -/
theorem State.buildFrame_eq (s : State) (c : Channel) (payload : List Byte) :
    ∃ f, s.buildFrame c payload = { s with frame := f } := by
  unfold State.buildFrame State.writeTag
  obtain ⟨g, hg⟩ := s.fMemWriteList_eq 0 (tagBytes s.params.tagLayout c.tci)
  split
  · obtain ⟨f, hf⟩ := (s.fMemWriteList 0 (tagBytes s.params.tagLayout c.tci)).fMemWriteList_eq c.payloadBase payload
    exact ⟨_, by rw [hf, hg]⟩
  · obtain ⟨f, hf⟩ := s.fMemWriteList_eq c.payloadBase payload
    exact ⟨_, by rw [hf]⟩

/-! The host port. -/

/-- A 32-bit read returns the register's value or 0 with a fault; it changes nothing else. -/
theorem State.hostRead32_cases (s : State) (a : HostAddr) :
    (∃ v, a.toNat % 4 = 0 ∧ s.readRegister a.toNat = some v ∧ s.hostRead32 a = { s with readData := v }) ∨
      ((a.toNat % 4 ≠ 0 ∨ s.readRegister a.toNat = none) ∧
        s.hostRead32 a = { s.hostAccessFault a with readData := 0 }) := by
  unfold State.hostRead32
  split
  · next h =>
    split
    · next v hv => exact .inl ⟨v, h, hv, rfl⟩
    · next hv => exact .inr ⟨.inr hv, rfl⟩
  · next h => exact .inr ⟨.inl h, rfl⟩

/-- A byte read returns the OPM byte or 0 with a fault; it changes nothing else. -/
theorem State.hostRead8_cases (s : State) (a : HostAddr) :
    (∃ i, s.opmOffset a = some i ∧ s.hostRead8 a = { s with readData := (s.opmByte i).setWidth 32 }) ∨
      (s.opmOffset a = none ∧ s.hostRead8 a = { s.hostAccessFault a with readData := 0 }) := by
  unfold State.hostRead8
  split
  · next i h => exact .inl ⟨i, h, rfl⟩
  · next h => exact .inr ⟨h, rfl⟩

/-- A byte write sets the OPM byte or records a fault. -/
theorem State.hostWrite8_cases (s : State) (a : HostAddr) (b : Byte) :
    (∃ i, s.opmOffset a = some i ∧ s.hostWrite8 a b = s.memWrite i b) ∨
      (s.opmOffset a = none ∧ s.hostWrite8 a b = s.hostAccessFault a) := by
  unfold State.hostWrite8
  split
  · next i h => exact .inl ⟨i, h, rfl⟩
  · next h => exact .inr ⟨h, rfl⟩

theorem State.opmOffset_eq_some_iff (s : State) (a : HostAddr) (i : Nat) :
    s.opmOffset a = some i ↔ a.toNat = 0x10000 + i ∧ i < s.params.opmBytes := by
  unfold State.opmOffset
  split <;> simp <;> omega

/-- What a write of a word to CMD does: a faulted block answers FAULTED, a word that is no command is a fault, a
command executes. -/
theorem issueCommand_cases (w : Word32) (s : State) :
    (s.fault ≠ 0#32 ∧ issueCommand w s = .next ((s.loadCommand w).respond .faulted)) ∨
      (s.fault = 0#32 ∧ ∃ e, decode w = .error e ∧
        issueCommand w s = .next ((s.loadCommand w).commandFault .illegalCommand)) ∨
      (s.fault = 0#32 ∧ ∃ i, decode w = .ok i ∧ issueCommand w s = exec i (s.loadCommand w)) := by
  unfold issueCommand
  by_cases h : s.fault = 0#32
  · right
    cases hd : decode w with
    | error e => exact .inl ⟨h, e, rfl, by simp [h]⟩
    | ok i => exact .inr ⟨h, i, rfl, by simp [h]⟩
  · exact .inl ⟨h, by simp [h]⟩

/-- What a 32-bit write does. -/
theorem hostWrite32_cases (a : HostAddr) (v : Word32) (s : State) :
    (a.toNat = 0x00 ∧ hostWrite32 a v s = issueCommand v s) ∨
      (a.toNat = 0x04 ∧ hostWrite32 a v s = .next { s with arg0 := v }) ∨
      (a.toNat = 0x08 ∧ hostWrite32 a v s = .next { s with arg1 := v }) ∨
      (a.toNat = 0x0C ∧ hostWrite32 a v s = .next { s with arg2 := v }) ∨
      ((a.toNat ≠ 0x00 ∧ a.toNat ≠ 0x04 ∧ a.toNat ≠ 0x08 ∧ a.toNat ≠ 0x0C) ∧
        hostWrite32 a v s = .next (s.hostAccessFault a)) := by
  unfold hostWrite32
  split <;> simp_all

end Sys2Proof.Machine
end

