-- ==== Sys2Proof/Laws/Exec.lean ====
section
/-! SUPPORT. For each meaning, once, everything it can do: if it answers a next state, one of these cases holds. The
cases name the states by the model's own operations. -/

namespace Sys2Proof.Machine

open Sys2Proof

variable {s t : State} {ch : BitVec 8}

/-- PARSE_HWADDR: an operand fault, a parsed address, or a malformed text. -/
theorem execParseHwaddr_next (h : execParseHwaddr s = .next t) :
    (s.inRange s.arg0 = false ∧ t = s.commandFault .operandRange) ∨
      (s.inRange s.arg0 = true ∧ ((∃ m, parseHw s.params.groupDigits (s.operand s.arg0) = some m ∧
          t = (s.setRespMac m).respond .ok) ∨
        (parseHw s.params.groupDigits (s.operand s.arg0) = none ∧ t = s.respond .invalidAddressFormat))) := by
  rcases requireRange_next h with ⟨hr, h⟩ | ⟨hr, h⟩
  · right
    refine ⟨by simpa using hr, ?_⟩
    unfold parseHwaddrBody at h
    split at h
    · next m hm => exact .inl ⟨m, hm, by simpa [eq_comm] using h⟩
    · next hm => exact .inr ⟨hm, by simpa [eq_comm] using h⟩
  · exact .inl ⟨by simpa using hr, h⟩

/-- IS_MULTICAST always answers. -/
theorem execIsMulticast_next (h : execIsMulticast s = .next t) :
    t = (s.setRespFlags (classFlags (classify s.macOperand))).respond .ok := by
  simpa [execIsMulticast, eq_comm] using h

/-- RECEIVE: a dangling handle, a wrong state, or the stub's success. -/
theorem execReceive_next (h : execReceive ch s = .next t) :
    (s.slotOpen ch = false ∧ t = s.commandFault .danglingHandle) ∨
      (s.slotOpen ch = true ∧
        (((s.chan ch.toNat).state ∉ [ChState.publisher, .publisherSubscriber] ∧
            t = (s.setRespCh ch.toNat).respond .invalidState) ∨
          ((s.chan ch.toNat).state ∈ [ChState.publisher, .publisherSubscriber] ∧
            t = (((s.setRespCh ch.toNat).setRespLen 0#16).setRespFlags rxUnimplFlag).respond .ok))) := by
  rcases requireOpen_next h with ⟨ho, h⟩ | ⟨ho, h⟩
  · right
    refine ⟨ho, ?_⟩
    rcases requireState_next h with ⟨hs, h⟩ | ⟨hs, h⟩
    · exact .inr ⟨hs, by simpa [eq_comm] using h⟩
    · exact .inl ⟨hs, h⟩
  · exact .inl ⟨ho, h⟩

/-- CLOSE: a dangling handle, or the slot is freed. -/
theorem execClose_next (h : execClose ch s = .next t) :
    (s.slotOpen ch = false ∧ t = s.commandFault .danglingHandle) ∨
      (s.slotOpen ch = true ∧
        t = ((s.setRespCh ch.toNat).setChannel ch.toNat Channel.free).respond .ok) := by
  rcases requireOpen_next h with ⟨ho, h⟩ | ⟨ho, h⟩
  · exact .inr ⟨ho, by simpa [eq_comm] using h⟩
  · exact .inl ⟨ho, h⟩

/-- REGISTER: a dangling handle, a wrong state, a transition with no group work, or the answered JoinGroup. -/
theorem execRegister_next (h : execRegister ch s = .next t) :
    (s.slotOpen ch = false ∧ t = s.commandFault .danglingHandle) ∨
      (s.slotOpen ch = true ∧
        (((s.chan ch.toNat).state ∉ [ChState.publisher, .ready] ∧ t = (s.setRespCh ch.toNat).respond .invalidState) ∨
          ((s.chan ch.toNat).state ∈ [ChState.publisher, .ready] ∧ isMulticastAddr (s.chan ch.toNat).tmac = false ∧
            t = ((s.setRespCh ch.toNat).transition ch (registeredState (s.chan ch.toNat).state)).respond .ok) ∨
          ((s.chan ch.toNat).state ∈ [ChState.publisher, .ready] ∧ isMulticastAddr (s.chan ch.toNat).tmac = true ∧
            ∃ a rest, s.env.joinGroup = a :: rest ∧ ∃ u, u = (s.setRespCh ch.toNat).answered { s.env with joinGroup := rest }
                (.joinGroup (s.chan ch.toNat).ifh (s.chan ch.toNat).tmac a) ∧
              ((a = .err ∧ t = u.respond .internalError) ∨
                (a = .ok () ∧ t = (u.transition ch (registeredState (s.chan ch.toNat).state)).respond .ok))))) := by
  rcases requireOpen_next h with ⟨ho, h⟩ | ⟨ho, h⟩
  · right
    refine ⟨ho, ?_⟩
    rcases requireState_next h with ⟨hs, h⟩ | ⟨hs, h⟩
    · right
      split at h
      · next hm =>
        obtain ⟨a, rest, he, h⟩ := askJoinGroup_next h
        exact .inr ⟨hs, hm, a, rest, he, _, rfl, finishGroup_next h⟩
      · next hm =>
        rcases finishGroup_next h with ⟨he, _⟩ | ⟨_, h⟩
        · cases he
        · exact .inl ⟨hs, by simpa using hm, h⟩
    · exact .inl ⟨hs, h⟩
  · exact .inl ⟨ho, h⟩

/-- UNREGISTER: a dangling handle, a wrong state, a transition with no group work, or the answered LeaveGroup. -/
theorem execUnregister_next (h : execUnregister ch s = .next t) :
    (s.slotOpen ch = false ∧ t = s.commandFault .danglingHandle) ∨
      (s.slotOpen ch = true ∧
        (((s.chan ch.toNat).state ∉ [ChState.publisherSubscriber, .subscriber] ∧
            t = (s.setRespCh ch.toNat).respond .invalidState) ∨
          ((s.chan ch.toNat).state ∈ [ChState.publisherSubscriber, .subscriber] ∧
            isMulticastAddr (s.chan ch.toNat).tmac = false ∧
            t = ((s.setRespCh ch.toNat).transition ch (unregisteredState (s.chan ch.toNat).state)).respond .ok) ∨
          ((s.chan ch.toNat).state ∈ [ChState.publisherSubscriber, .subscriber] ∧
            isMulticastAddr (s.chan ch.toNat).tmac = true ∧
            ∃ a rest, s.env.leaveGroup = a :: rest ∧ ∃ u, u = (s.setRespCh ch.toNat).answered
                { s.env with leaveGroup := rest } (.leaveGroup (s.chan ch.toNat).ifh (s.chan ch.toNat).tmac a) ∧
              ((a = .err ∧ t = u.respond .internalError) ∨
                (a = .ok () ∧ t = (u.transition ch (unregisteredState (s.chan ch.toNat).state)).respond .ok))))) := by
  rcases requireOpen_next h with ⟨ho, h⟩ | ⟨ho, h⟩
  · right
    refine ⟨ho, ?_⟩
    rcases requireState_next h with ⟨hs, h⟩ | ⟨hs, h⟩
    · right
      split at h
      · next hm =>
        obtain ⟨a, rest, he, h⟩ := askLeaveGroup_next h
        exact .inr ⟨hs, hm, a, rest, he, _, rfl, finishGroup_next h⟩
      · next hm =>
        rcases finishGroup_next h with ⟨he, _⟩ | ⟨_, h⟩
        · cases he
        · exact .inl ⟨hs, by simpa using hm, h⟩
    · exact .inl ⟨hs, h⟩
  · exact .inl ⟨ho, h⟩

/-- SEND holding a buffer: one Transmit, then one FreeFrame, then the status of the Transmit. -/
theorem sendFrame_next {c : Channel} {payload : List Byte} {fb : Word32} (h : sendFrame c payload fb s = .next t) :
    ∃ x rest u rest', s.env.transmit = x :: rest ∧ s.env.freeFrame = u :: rest' ∧
      t = (((((s.buildFrame c payload).answered { s.env with transmit := rest }
          (.transmit c.ifh fb c.lmac c.tmac c.etherType (s.buildFrame c payload).frameBytes x)).answered
            { s.env with transmit := rest, freeFrame := rest' } (.freeFrame fb)).dropFrame).respond (transmitStatus x)) := by
  obtain ⟨f, hf⟩ := s.buildFrame_eq c payload
  obtain ⟨x, rest, hx, h⟩ := askTransmit_next h
  obtain ⟨u, rest', hu, h⟩ := askFreeFrame_next h
  have hbe : (s.buildFrame c payload).env = s.env := by rw [hf]
  rw [hbe] at hx h hu
  exact ⟨x, rest, u, rest', hx, hu, by simpa [eq_comm] using h⟩

/-- SEND: a decode fault, a wrong state, a failed allocation, or a frame handed to the transmitter. -/
theorem execSend_next (h : execSend ch s = .next t) :
    (s.slotOpen ch = false ∧ t = s.commandFault .danglingHandle) ∨
      (s.slotOpen ch = true ∧
        ((s.inRange s.arg0 = false ∧ t = s.commandFault .operandRange) ∨
          (s.inRange s.arg0 = true ∧
            (((s.chan ch.toNat).state ∉ [ChState.publisher, .publisherSubscriber] ∧
                t = (s.setRespCh ch.toNat).respond .invalidState) ∨
              ((s.chan ch.toNat).state ∈ [ChState.publisher, .publisherSubscriber] ∧
                ∃ a rest, s.env.allocateFrame = a :: rest ∧
                  ∃ u, u = (s.setRespCh ch.toNat).answered { s.env with allocateFrame := rest }
                      (.allocateFrame (BitVec.ofNat 32 ((s.chan ch.toNat).frameSize (descLen s.arg0))) a) ∧
                    ((a = .err ∧ t = u.respond .outOfMemory) ∨
                      ∃ fb, a = .ok fb ∧ sendFrame (s.chan ch.toNat) (s.operand s.arg0) fb
                        (u.holdFrame fb ((s.chan ch.toNat).frameSize (descLen s.arg0))) = .next t)))))) := by
  rcases requireOpen_next h with ⟨ho, h⟩ | ⟨ho, h⟩
  · right
    refine ⟨ho, ?_⟩
    rcases requireRange_next h with ⟨hr, h⟩ | ⟨hr, h⟩
    · right
      refine ⟨by simpa using hr, ?_⟩
      rcases requireState_next h with ⟨hs, h⟩ | ⟨hs, h⟩
      · right
        obtain ⟨a, rest, he, h⟩ := askAllocateFrame_next h
        refine ⟨hs, a, rest, he, _, rfl, ?_⟩
        cases a with
        | err => exact .inl ⟨rfl, by simpa [eq_comm] using h⟩
        | ok fb => exact .inr ⟨fb, rfl, h⟩
      · exact .inl ⟨hs, h⟩
    · exact .inl ⟨by simpa using hr, h⟩
  · exact .inl ⟨ho, h⟩

/-- OPEN: an operand fault, one of its five failures, or the new channel. -/
theorem execOpen_next (h : execOpen s = .next t) :
    (s.openDescriptors.all s.inRange = false ∧ t = s.commandFault .operandRange) ∨
      (s.openDescriptors.all s.inRange = true ∧
        ((s.addrKind = false ∧ t = s.respond .invalidConfiguration) ∨
          (s.addrKind = true ∧ ∃ r rest, s.env.parseEndpointUrl = r :: rest ∧
            ∃ v, v = s.answered { s.env with parseEndpointUrl := rest } (.parseEndpointUrl (s.operand s.arg0) r) ∧
              ((r = .err ∧ t = v.respond .invalidConfiguration) ∨
                ∃ u, r = .ok u ∧
                  ((parseHw s.params.groupDigits u.target = none ∧ t = v.respond .invalidAddressFormat) ∨
                    ∃ tmac, parseHw s.params.groupDigits u.target = some tmac ∧
                      ((s.freeSlot = none ∧ t = v.respond .outOfMemory) ∨
                        ∃ n q rest', s.freeSlot = some n ∧ s.env.resolveInterface = q :: rest' ∧
                          ∃ w, w = v.answered { s.env with parseEndpointUrl := rest, resolveInterface := rest' }
                              (.resolveInterface s.interfaceName q) ∧
                            ((q = .err ∧ t = w.respond .interfaceResolutionError) ∨
                              ∃ f, q = .ok f ∧
                                t = ((w.setChannel n (openedChannel u f tmac)).setRespCh n).respond .ok))))))) := by
  rcases requireRange_next h with ⟨hr, h⟩ | ⟨hr, h⟩
  · right
    refine ⟨hr, ?_⟩
    unfold openBody at h
    split at h
    · next hk =>
      right
      obtain ⟨r, rest, he, h⟩ := askParseEndpointUrl_next h
      refine ⟨hk, r, rest, he, _, rfl, ?_⟩
      cases r with
      | err => exact .inl ⟨rfl, by simpa [eq_comm] using h⟩
      | ok u =>
        refine .inr ⟨u, rfl, ?_⟩
        simp only [openTarget, State.answered_params] at h
        split at h
        · next hp => exact .inl ⟨hp, by simpa [eq_comm] using h⟩
        · next tmac hp =>
          refine .inr ⟨tmac, hp, ?_⟩
          simp only [State.freeSlot_answered] at h
          split at h
          · next hn => exact .inl ⟨hn, by simpa [eq_comm] using h⟩
          · next n hn =>
            obtain ⟨q, rest', hq, h⟩ := askResolveInterface_next h
            refine .inr ⟨n, q, rest', hn, hq, _, rfl, ?_⟩
            cases q with
            | err => exact .inl ⟨rfl, by simpa [eq_comm] using h⟩
            | ok f => exact .inr ⟨f, rfl, by simpa [eq_comm] using h⟩
    · next hk => exact .inl ⟨by simpa using hk, by simpa [eq_comm] using h⟩
  · exact .inl ⟨hr, h⟩

end Sys2Proof.Machine
end

