-- ==== Sys2Proof/Laws/PerInstr.lean ====
section
/-! SUPPORT. Statements about every instruction as syntax, one lemma per constructor of Instr. -/

/-- The four fields of a command's word (R70): OP, RSV0 = 0, CH, RSV1 = 0. -/
def Sys2Proof.Laws.EncodeFields.Statement (i : Sys2Proof.Instr) : Prop :=
  Sys2Proof.fieldOp (Sys2Proof.encode i) = i.opcode ∧ Sys2Proof.fieldRsv0 (Sys2Proof.encode i) = 0#4 ∧
    Sys2Proof.fieldCh (Sys2Proof.encode i) = i.chField ∧ Sys2Proof.fieldRsv1 (Sys2Proof.encode i) = 0#16

namespace Sys2Proof.Laws.EncodeFields

open Sys2Proof

/-- The fields of a word put together as R70 says. -/
theorem of_parts (op : BitVec 4) (ch : BitVec 8) :
    fieldOp (0#16 ++ ch ++ 0#4 ++ op) = op ∧ fieldRsv0 (0#16 ++ ch ++ 0#4 ++ op) = 0#4 ∧
      fieldCh (0#16 ++ ch ++ 0#4 ++ op) = ch ∧ fieldRsv1 (0#16 ++ ch ++ 0#4 ++ op) = 0#16 := by
  refine ⟨?_, ?_, ?_, ?_⟩ <;>
  · apply BitVec.eq_of_getLsbD_eq
    intro k hk
    simp only [fieldOp, fieldRsv0, fieldCh, fieldRsv1, BitVec.getLsbD_extractLsb', BitVec.getLsbD_append]
    interval_cases k <;> simp

theorem openChannel : Statement .openChannel := of_parts _ _
theorem register (ch : BitVec 8) : Statement (.register ch) := of_parts _ _
theorem unregister (ch : BitVec 8) : Statement (.unregister ch) := of_parts _ _
theorem send (ch : BitVec 8) : Statement (.send ch) := of_parts _ _
theorem receive (ch : BitVec 8) : Statement (.receive ch) := of_parts _ _
theorem close (ch : BitVec 8) : Statement (.close ch) := of_parts _ _
theorem parseHwaddr : Statement .parseHwaddr := of_parts _ _
theorem isMulticast : Statement .isMulticast := of_parts _ _

end Sys2Proof.Laws.EncodeFields
end

