-- ==== Sys2Proof/Tests/Slice0.lean ====
section
/-! SUPPORT. The model's own tests: small steps whose results are those of spec/95_test_vectors.md (the vector is named at
each), words written out from spec/30_encoding.md, and for every statement with hypotheses a state that meets them. -/

namespace Sys2Proof.Tests

open Sys2Proof Sys2Proof.Machine Sys2Proof.Claims

/-! Small states. -/

/-- A field of the next state, if there is one. -/
def after {α : Type} (o : Out) (f : State → α) : Option α :=
  match o with
  | .next s => some (f s)
  | .fault _ => none
  | .refused _ => none

/-- What an outcome is stuck on, if it is. -/
def stuckOn (o : Out) : Option EnvRequest :=
  match o with
  | .next _ => none
  | .fault (.envSilent r) => some r
  | .refused _ => none

theorem next_of_after {o : Out} (P : State → Prop) [DecidablePred P] (h : after o (fun t => decide (P t)) = some true) :
    ∃ t, o = .next t ∧ P t := by
  cases o with
  | next t => exact ⟨t, rfl, by simpa [after] using h⟩
  | fault r => cases h
  | refused r => cases h

/-- OPM with `bytes` written from offset 0 on. -/
def opmOf (bytes : List Byte) : Memory := bytes.zipIdx.map (fun p => (p.2, p.1))

/-- `01-1B-19-00-00-00` -/
def multicastText : List Byte :=
  [0x30, 0x31, 0x2D, 0x31, 0x42, 0x2D, 0x31, 0x39, 0x2D, 0x30, 0x30, 0x2D, 0x30, 0x30, 0x2D, 0x30, 0x30]

/-- `01-23-45-67-89-ab` -/
def lowerCaseText : List Byte :=
  [0x30, 0x31, 0x2D, 0x32, 0x33, 0x2D, 0x34, 0x35, 0x2D, 0x36, 0x37, 0x2D, 0x38, 0x39, 0x2D, 0x61, 0x62]

/-- `01-23-45` -/
def shortText : List Byte := [0x30, 0x31, 0x2D, 0x32, 0x33, 0x2D, 0x34, 0x35]

/-- A channel of vector L2.5 with the target `tmac`. -/
def channelWith (st : ChState) (vid : BitVec 16) (prio : BitVec 8) (tmac : Mac48) : Channel where
  valid := true
  state := st
  vid := vid
  prio := prio
  ifh := 2#32
  lmac := 0x020000AABBCC#48
  tmac := tmac

/-- The multicast target of L2.5. -/
def group : Mac48 := 0x011B19000000#48

/-- The unicast target of L2.5. -/
def station : Mac48 := 0x020000000001#48

/-- The machine after reset with slot 0 holding `c`. -/
def withChannel (c : Channel) : State := State.reset.setChannel 0 c

/-- The same with the parameters changed. -/
def withMode (m : RegTransitionMode) (s : State) : State := { s with params := { s.params with regTransition := m } }

/-- An ENV that answers one request of each kind, Ok. -/
def willing : EnvAnswers where
  parseEndpointUrl := [.ok { target := multicastText, vid := 0#16, prio := 0#8 }]
  resolveInterface := [.ok { ifh := 2#32, lmac := 0x020000AABBCC#48 }]
  allocateFrame := [.ok 7#32]
  transmit := [.ok ()]
  freeFrame := [()]
  joinGroup := [.ok ()]
  leaveGroup := [.ok ()]

/-- An ENV that answers one request of each kind with its error, where the request has one. -/
def unwilling : EnvAnswers where
  parseEndpointUrl := [.err]
  resolveInterface := [.err]
  allocateFrame := [.err]
  transmit := [.err]
  freeFrame := [()]
  joinGroup := [.err]
  leaveGroup := [.err]

/-- The machine after reset, about to perform `op`. -/
def about (op : HostOp) (s : State) : State := { s with inputs := [op] }

/-- A faulted block: FAULT = ILLEGAL_COMMAND with the word 0xF. -/
def faulted : State := { State.reset with fault := 1#32, faultInfo := 0xF#32 }

/-- OPEN with both descriptors in range and ADDR_KIND = 1: `url` at offset 0, two bytes, `if` at offset 0, two bytes. -/
def opening (env : EnvAnswers) : State :=
  { State.reset with arg0 := 0x00020000#32, arg1 := 0x00020000#32, arg2 := 1#32, opm := opmOf [0x65, 0x30], env := env }

/-- The same in FIXED mode, with the name `e0` and a range-breaking ARG1. -/
def openingFixed (env : EnvAnswers) : State :=
  { opening env with arg1 := 0xFFFFFFFF#32, params := { Params.default with ifaceName := .fixed [0x65, 0x30] } }

/-- SEND of the payload DE AD at offset 0 on slot 0. -/
def sending (c : Channel) (env : EnvAnswers) : State :=
  { withChannel c with arg0 := 0x00020000#32, opm := opmOf [0xDE, 0xAD], env := env }

/-- A PUBLISHER channel with VID 100, PRIO 5 (vector W8). -/
def tagged : Channel := channelWith .publisher 100#16 5#8 group

/-- A PUBLISHER channel with VID 0. -/
def untagged : Channel := channelWith .publisher 0#16 0#8 group

/-! Well-formedness: each check refuses an ill-formed term and accepts the terms at its bounds. -/

theorem test_params_default_legal : Params.default.Legal := by decide
theorem test_params_bounds_legal :
    Params.Legal { Params.default with numChannels := 1, opmBytes := 1 } ∧
      Params.Legal { Params.default with numChannels := 255, opmBytes := 65536 } := by decide
theorem test_no_channels_refused : ¬ Params.Legal { Params.default with numChannels := 0 } := by decide
theorem test_256_channels_refused : ¬ Params.Legal { Params.default with numChannels := 256 } := by decide
theorem test_no_opm_refused : ¬ Params.Legal { Params.default with opmBytes := 0 } := by decide
theorem test_65537_opm_bytes_refused : ¬ Params.Legal { Params.default with opmBytes := 65537 } := by decide
theorem test_slot_8_of_8_refused : ¬ Instr.WellFormed Params.default (.register 8#8) := by decide
theorem test_slot_7_of_8_accepted : Instr.WellFormed Params.default (.close 7#8) := by decide
theorem test_global_accepted : Instr.WellFormed Params.default .openChannel := by decide

/-! Decoding: the words of R70 and R71, written `RSV1 CH RSV0 OP` bit by bit. -/

theorem test_decode_open : decode 0b0000000000000000_00000000_0000_0001#32 = .ok .openChannel := by decide
theorem test_decode_register : decode 0b0000000000000000_00000101_0000_0010#32 = .ok (.register 5#8) := by decide
theorem test_decode_unregister : decode 0b0000000000000000_10000000_0000_0011#32 = .ok (.unregister 128#8) := by decide
theorem test_decode_send : decode 0b0000000000000000_00000001_0000_0100#32 = .ok (.send 1#8) := by decide
theorem test_decode_receive : decode 0b0000000000000000_11111110_0000_0101#32 = .ok (.receive 254#8) := by decide
theorem test_decode_close : decode 0b0000000000000000_00000000_0000_0110#32 = .ok (.close 0#8) := by decide
theorem test_decode_parse_hwaddr : decode 0b0000000000000000_00000000_0000_1000#32 = .ok .parseHwaddr := by decide
theorem test_decode_is_multicast : decode 0b0000000000000000_00000000_0000_1001#32 = .ok .isMulticast := by decide
theorem test_decode_op0_illegal : decode 0b0000000000000000_00000000_0000_0000#32 = .error .reservedOpcode := by decide
theorem test_decode_op7_illegal : decode 0b0000000000000000_00000000_0000_0111#32 = .error .reservedOpcode := by decide
theorem test_decode_rsv0_before_op : decode 0b0000000000000000_00000000_0001_0111#32 = .error .reservedBits := by decide
theorem test_decode_rsv1_illegal : decode 0b1000000000000000_00000000_0000_1000#32 = .error .reservedBits := by decide
theorem test_decode_open_ch_illegal : decode 0b0000000000000000_00000001_0000_0001#32 = .error .channelOnGlobal := by decide
theorem test_table_word_register : decodeTableWord 32 0x00000702 = some (.register 7#8) := by decide
theorem test_table_word_too_wide : decodeTableWord 40 0x100000001 = none := by decide

/-! One step of each command. -/

/-- L2.1, `01-23-45-67-89-ab`. -/
theorem test_parse_ok :
    after (step (about (.write32 0#17 0x8#32) { State.reset with arg0 := 0x00110000#32, opm := opmOf lowerCaseText }))
      State.resp = some { status := 0#32, ch := 0#32, macHi := 0x01234567#32, macLo := 0x000089AB#32, flags := 0#32, len := 0#32 } := by
  decide

/-- L2.1, `001-02-03-04-05-06`: the digit limit is MAX2's alone. -/
theorem test_parse_three_digits :
    parseHw .valueOnly [0x30, 0x30, 0x31, 0x2D, 0x30, 0x32, 0x2D, 0x33, 0x2D, 0x34, 0x2D, 0x35, 0x2D, 0x36] = some 0x010203040506#48 ∧
      parseHw .max2 [0x30, 0x30, 0x31, 0x2D, 0x30, 0x32, 0x2D, 0x33, 0x2D, 0x34, 0x2D, 0x35, 0x2D, 0x36] = none := by decide

/-- L2.2: FF-FF-FF-FF-FF-FF is broadcast, FF-FF-FF-FF-FF-FE multicast. -/
theorem test_classify_top :
    after (exec .isMulticast { State.reset with arg0 := 0xFFFFFFFF#32, arg1 := 0x0000FFFF#32 }) (fun t => t.resp.flags) = some 8#32 ∧
      after (exec .isMulticast { State.reset with arg0 := 0xFFFFFFFF#32, arg1 := 0xABCDFFFE#32 }) (fun t => t.resp.flags) = some 5#32 := by
  decide

/-- L2.2: the group bit is bit 0 of byte 0, not of byte 5. -/
theorem test_classify_unicast :
    after (exec .isMulticast { State.reset with arg0 := 0x02000000#32, arg1 := 0x00000001#32 }) (fun t => t.resp.flags) = some 0#32 := by
  decide

/-- L2.6, the sixth row, and the example of R112. -/
theorem test_open_ok :
    after (step (about (.write32 0#17 0x1#32) (opening willing))) (fun t => (t.resp.status, t.resp.ch, t.chan 0)) =
      some (0#32, 0#32, untagged) := by decide

/-- L2.6, the seventh row, in small: slot 0 open gives slot 1. -/
theorem test_open_least_free :
    after (exec .openChannel ((opening willing).setChannel 0 tagged)) (fun t => (t.resp.ch, t.chan 0, t.chan 1)) =
      some (1#32, tagged, untagged) := by decide

/-- L2.5, the first row. -/
theorem test_register_multicast :
    after (step (about (.write32 0#17 0x2#32) { withChannel untagged with env := willing }))
      (fun t => (t.resp.status, (t.chan 0).state, t.history)) =
      some (0#32, .publisherSubscriber, [.joinGroup 2#32 0x011B19000000#48 (.ok ())]) := by decide

/-- L2.5, READY is taken to SUBSCRIBER; NONE mode keeps it. -/
theorem test_register_ready :
    after (exec (.register 0#8) (withChannel (channelWith .ready 0#16 0#8 station))) (fun t => (t.chan 0).state) = some .subscriber ∧
      after (exec (.register 0#8) (withMode .none (withChannel (channelWith .ready 0#16 0#8 station))))
        (fun t => (t.chan 0).state) = some .ready := by decide

/-- L2.5, Leave Err. -/
theorem test_unregister_leave_err :
    after (exec (.unregister 0#8) { withChannel (channelWith .publisherSubscriber 0#16 0#8 group) with env := unwilling })
      (fun t => (t.resp.status, (t.chan 0).state)) = some (7#32, .publisherSubscriber) := by decide

/-- L2.5, SUBSCRIBER is taken to READY. -/
theorem test_unregister_subscriber :
    after (exec (.unregister 0#8) (withChannel (channelWith .subscriber 0#16 0#8 station)))
      (fun t => (t.resp.status, (t.chan 0).state)) = some (0#32, .ready) := by decide

/-- L2.4, the second row: VID 100, PRIO 5, payload DE AD, TCI_FIRST. -/
theorem test_send_tagged :
    after (exec (.send 0#8) (sending tagged willing)) (fun t => t.history) = some [.allocateFrame 6#32 (.ok 7#32),
      .transmit 2#32 7#32 0x020000AABBCC#48 0x011B19000000#48 0x8100#16 [0xA0, 0x64, 0xB6, 0x2C, 0xDE, 0xAD] (.ok ()),
      .freeFrame 7#32] := by decide

/-- L2.4, the last row: a failed Transmit still frees the buffer. -/
theorem test_send_transmit_err :
    after (exec (.send 0#8) (sending untagged { willing with transmit := [.err] }))
      (fun t => (t.resp.status, t.frame, t.history.getLast?)) = some (6#32, none, some (.freeFrame 7#32)) := by decide

/-- L2.5, RECEIVE in PUBLISHER, and in READY. -/
theorem test_receive :
    after (exec (.receive 0#8) (withChannel untagged)) (fun t => (t.resp.status, t.resp.flags)) = some (0#32, 2#32) ∧
      after (exec (.receive 0#8) (withChannel (channelWith .ready 0#16 0#8 group)))
        (fun t => (t.resp.status, t.resp.flags)) = some (4#32, 0#32) := by decide

/-- P5, steps 7 and 8: a second CLOSE dangles. -/
theorem test_close_twice :
    after (exec (.close 0#8) (withChannel tagged)) (fun t => (t.resp.status, t.channels)) =
        some (0#32, List.replicate 8 Channel.free) ∧
      after (step (about (.write32 0#17 0x6#32) State.reset)) (fun t => (t.resp.status, t.fault, t.faultInfo)) =
        some (0xFF#32, 3#32, 6#32) := by decide

/-! One host access. -/

/-- L2.7: a misaligned read, a reserved address, and a byte access to the register window. -/
theorem test_forbidden_accesses :
    after (step (about (.read32 0x00002#17) State.reset)) (fun t => (t.fault, t.faultInfo, t.resp.status)) = some (4#32, 2#32, 0xFE#32) ∧
      after (step (about (.read32 0x00038#17) State.reset)) (fun t => t.faultInfo) = some 0x38#32 ∧
      after (step (about (.write8 0x00004#17 1#8) State.reset)) (fun t => (t.faultInfo, t.arg0)) = some (4#32, 0#32) := by decide

/-- R32 with the defaults, and L2.5: CH_CTRL reads 0x31 for PUBLISHER_SUBSCRIBER. -/
theorem test_reads :
    after (step (about (.read32 0x00030#17) State.reset)) (fun t => t.readData) = some 8#32 ∧
      after (step (about (.read32 0x00034#17) State.reset)) (fun t => t.readData) = some 4096#32 ∧
      after (step (about (.read32 0x00100#17) (withChannel (channelWith .publisherSubscriber 0#16 0#8 group))))
        (fun t => t.readData) = some 0x31#32 := by decide

/-- P3: the accesses of `parse text=(0x00,17)` and of `ismc mac=0xFFFFFFFFFFFF` (R83). -/
theorem test_pseudo_instructions :
    programOps (Pseudo.parse 0#16 17#16).expand = [.write32 0x04#17 0x00110000#32, .write32 0x00#17 8#32] ∧
      programOps (Pseudo.ismc 0xFFFFFFFFFFFF#48).expand =
        [.write32 0x04#17 0xFFFFFFFF#32, .write32 0x08#17 0x0000FFFF#32, .write32 0x00#17 9#32] := by decide

/-! For each statement with hypotheses, a state and operands that meet them together, clause by clause, at the bounds of the
ranges they name. -/

theorem witness_StepRunsDecodedCommand :
    let s := about (.write32 0#17 0x0000FF06#32) State.reset
    s.inputs = .write32 0#17 0x0000FF06#32 :: [] ∧ s.fault = 0#32 ∧ decode 0x0000FF06#32 = .ok (.close 255#8) := by decide

theorem witness_FaultedBlockAnswersFaulted :
    let s := about (.write32 0#17 9#32) faulted
    s.inputs = .write32 0#17 9#32 :: [] ∧ s.fault ≠ 0#32 := by decide

/-- The lowest and the highest bit of RSV0 and of RSV1. -/
theorem witness_ReservedBitsAreIllegal :
    ∀ n ∈ [0x00000010, 0x00000080, 0x00010000, 0x80000000],
      (about (.write32 0#17 (BitVec.ofNat 32 n)) State.reset).inputs = .write32 0#17 (BitVec.ofNat 32 n) :: [] ∧
        (about (.write32 0#17 (BitVec.ofNat 32 n)) State.reset).fault = 0#32 ∧
        ((BitVec.ofNat 32 n).extractLsb' 4 4 ≠ 0#4 ∨ (BitVec.ofNat 32 n).extractLsb' 16 16 ≠ 0#16) := by decide

/-- Every reserved OP, and each global command with the least and the greatest nonzero CH. -/
theorem witness_IllegalOpcodesFault :
    ∀ n ∈ [0x0, 0x7, 0xA, 0xB, 0xC, 0xD, 0xE, 0xF, 0x0101, 0xFF01, 0x0108, 0xFF09],
      (about (.write32 0#17 (BitVec.ofNat 32 n)) State.reset).inputs = .write32 0#17 (BitVec.ofNat 32 n) :: [] ∧
        (about (.write32 0#17 (BitVec.ofNat 32 n)) State.reset).fault = 0#32 ∧
        ((BitVec.ofNat 32 n).extractLsb' 0 4 ∈ [0x0#4, 0x7#4, 0xA#4, 0xB#4, 0xC#4, 0xD#4, 0xE#4, 0xF#4] ∨
          ((BitVec.ofNat 32 n).extractLsb' 0 4 ∈ [0x1#4, 0x8#4, 0x9#4] ∧ (BitVec.ofNat 32 n).extractLsb' 8 8 ≠ 0#8)) := by decide

/-- A second fault on a faulted block. -/
theorem witness_FirstFaultIsKept_faulted :
    let s := about (.read32 0x00002#17) faulted
    (∃ t, step s = .next t ∧ t.faultInfo = 0xF#32) ∧ s.inputs.head? ≠ some .reset ∧ s.fault ≠ 0#32 :=
  ⟨next_of_after (fun t => t.faultInfo = 0xF#32) (by decide), by decide, by decide⟩

/-- A step that records no fault. -/
theorem witness_FirstFaultIsKept_running :
    let s := about (.read32 0x00028#17) State.reset
    (∃ t, step s = .next t ∧ t.fault = 0#32) ∧ s.inputs.head? ≠ some .reset :=
  ⟨next_of_after (fun t => t.fault = 0#32) (by decide), by decide⟩

/-- The last slot, closed, and the first that does not exist, with a channel command of each kind. -/
theorem witness_DanglingHandleFaults :
    ∀ i ∈ [Instr.register 7#8, .unregister 7#8, .send 8#8, .receive 8#8, .close 255#8],
      i.isChannelCommand = true ∧ State.reset.fault = 0#32 ∧
        (State.reset.params.numChannels ≤ i.chField.toNat ∨ (State.reset.chan i.chField.toNat).valid = false) := by decide

/-- Off 4095 and length 2, one byte too many. -/
theorem witness_OperandRangeFaults :
    let s := { withChannel tagged with arg0 := 0x00020FFF#32 }
    let t := { withChannel tagged with arg0 := 0x00010FFF#32, arg1 := 0x00020FFF#32 }
    s.fault = 0#32 ∧ t.fault = 0#32 ∧ ¬ InOpm s s.arg0 ∧ InOpm t t.arg0 ∧ t.params.ifaceName = .config ∧ ¬ InOpm t t.arg1 ∧
      OpenSlot s 0#8 tagged := by decide

/-- The first and the last address of each reserved range, OPM, and a misaligned address. -/
theorem witness_ForbiddenAccessesFault_read32 :
    ∀ n ∈ [0x00038, 0x000FC, 0x00200, 0x0FFFC, 0x10000, 0x10FFC, 0x11000, 0x1FFFF, 0x00001, 0x00003],
      Params.default.Legal ∧ (about (.read32 (BitVec.ofNat 17 n)) State.reset).inputs = .read32 (BitVec.ofNat 17 n) :: [] ∧
        ForbiddenRead32 State.reset.params (BitVec.ofNat 17 n).toNat := by decide

/-- The RO registers, the first and the last word of the channel window, and a misaligned address. -/
theorem witness_ForbiddenAccessesFault_write32 :
    ∀ n ∈ [0x00010, 0x00034, 0x00100, 0x001FC, 0x00200, 0x10000, 0x0000D],
      (about (.write32 (BitVec.ofNat 17 n) 0#32) State.reset).inputs = .write32 (BitVec.ofNat 17 n) 0#32 :: [] ∧
        ForbiddenWrite32 State.reset.params (BitVec.ofNat 17 n).toNat := by decide

/-- The register window and the bytes past OPM. -/
theorem witness_ForbiddenAccessesFault_bytes :
    ∀ n ∈ [0x00000, 0x00100, 0x0FFFF, 0x11000, 0x1FFFF],
      (about (.read8 (BitVec.ofNat 17 n)) State.reset).inputs = .read8 (BitVec.ofNat 17 n) :: [] ∧
        (about (.write8 (BitVec.ofNat 17 n) 0#8) State.reset).inputs = .write8 (BitVec.ofNat 17 n) 0#8 :: [] ∧
        ForbiddenByte State.reset.params (BitVec.ofNat 17 n).toNat := by decide

/-- The first and the last register of the map. -/
theorem witness_RegisterReadsReturnValues :
    State.reset.params.Legal ∧ (0x00#17, 0#32) ∈ registerMap State.reset ∧ (0x34#17, 4096#32) ∈ registerMap State.reset ∧
      (about (.read32 0x00#17) State.reset).inputs = .read32 0x00#17 :: [] ∧
      (about (.read32 0x34#17) State.reset).inputs = .read32 0x34#17 :: [] := by decide

/-- The first word of the first slot and the last word of the last slot. -/
theorem witness_ChannelWindowReadsFields :
    let s := withChannel tagged
    s.params.Legal ∧ 0 < s.params.numChannels ∧ (windowWords (s.chan 0))[0]? = some 0x11#32 ∧
      7 < s.params.numChannels ∧ (windowWords (s.chan 7))[7]? = some 0#32 ∧
      (about (.read32 (windowAddr 0 0)) s).inputs = .read32 (windowAddr 0 0) :: [] ∧
      (about (.write32 (windowAddr 7 7) 1#32) s).inputs = .write32 (windowAddr 7 7) 1#32 :: [] ∧
      windowAddr 7 7 = 0x001FC#17 := by decide

/-- The first and the last byte of OPM. -/
theorem witness_OpmByteAccesses :
    ∀ i ∈ [0, 4095],
      let a : HostAddr := BitVec.ofNat 17 (0x10000 + i)
      State.reset.params.Legal ∧ i < State.reset.params.opmBytes ∧ a.toNat = 0x10000 + i ∧
        (about (.write8 a 1#8) State.reset).inputs = .write8 a 1#8 :: [] ∧
        (about (.read8 a) State.reset).inputs = .read8 a :: [] ∧ (about (.read32 a) State.reset).inputs = .read32 a :: [] ∧
        (about (.write32 a 1#32) State.reset).inputs = .write32 a 1#32 :: [] := by decide

theorem witness_ArgumentWritesStore :
    ∀ n ∈ [0x04, 0x08, 0x0C],
      (about (.write32 (BitVec.ofNat 17 n) 0xFFFFFFFF#32) faulted).inputs =
        .write32 (BitVec.ofNat 17 n) 0xFFFFFFFF#32 :: [] := by decide

theorem witness_ResetInputSetsRegisters : (about .reset { faulted with channels := [tagged] }).inputs = .reset :: [] := by decide

theorem witness_ResetInputKeepsEnvironment :
    let s := about .reset (sending tagged willing)
    s.inputs = .reset :: [] ∧ ∃ t, step s = .next t ∧ t.resets = 1 :=
  ⟨by decide, next_of_after (fun t => t.resets = 1) (by decide)⟩

/-- The bounds of the legal parameters. -/
theorem witness_InvariantHoldsAtReset :
    Params.Legal { Params.default with numChannels := 255, opmBytes := 65536, ifaceName := .fixed [0x65, 0x30] } ∧
      Params.Legal { Params.default with numChannels := 1, opmBytes := 1 } := by decide

/-- A state of the invariant with an open channel and a written OPM, whose step executes a SEND. -/
theorem witness_StepKeepsInvariant :
    let s := about (.write32 0#17 0x4#32) (sending tagged willing)
    s.Inv ∧ ∃ t, step s = .next t ∧ t.resp.status = 0#32 :=
  ⟨by decide, next_of_after (fun t => t.resp.status = 0#32) (by decide)⟩

/-- The first and the last byte of each range of hex digits, and the bytes next to them. -/
theorem witness_HexDigitValues :
    (∀ b ∈ [0x30#8, 0x39#8], 0x30 ≤ b.toNat ∧ b.toNat ≤ 0x39) ∧ (∀ b ∈ [0x41#8, 0x46#8], 0x41 ≤ b.toNat ∧ b.toNat ≤ 0x46) ∧
      (∀ b ∈ [0x61#8, 0x66#8], 0x61 ≤ b.toNat ∧ b.toNat ≤ 0x66) ∧
      ∀ b ∈ [0x00#8, 0x2D#8, 0x2F#8, 0x3A#8, 0x40#8, 0x47#8, 0x60#8, 0x67#8, 0xFF#8],
        ¬ (0x30 ≤ b.toNat ∧ b.toNat ≤ 0x39) ∧ ¬ (0x41 ≤ b.toNat ∧ b.toNat ≤ 0x46) ∧ ¬ (0x61 ≤ b.toNat ∧ b.toNat ≤ 0x66) := by
  decide

theorem witness_ParseHwaddrResult_ok :
    let s := { State.reset with arg0 := 0x00110000#32, opm := opmOf multicastText }
    InOpm s s.arg0 ∧ parseHw s.params.groupDigits (operandBytes s s.arg0) = some group := by decide

/-- The empty text at the end of OPM (off 4096, length 0), and a text with too few groups. -/
theorem witness_ParseHwaddrResult_fail :
    let s := { State.reset with arg0 := 0x00001000#32 }
    let t := { State.reset with arg0 := 0x00080000#32, opm := opmOf shortText }
    InOpm s s.arg0 ∧ parseHw s.params.groupDigits (operandBytes s s.arg0) = none ∧
      InOpm t t.arg0 ∧ parseHw t.params.groupDigits (operandBytes t t.arg0) = none := by decide

theorem witness_IsMulticastResult :
    let s := { State.reset with arg0 := 0x01005E00#32, arg1 := 0xABCD0001#32 }
    0x01005E000001#48 = s.arg0 ++ s.arg1.extractLsb' 0 16 := by decide

/-- CONFIG mode, the first slot. -/
theorem witness_OpenCreatesChannel_config :
    let s := opening willing
    s.params.Legal ∧ InOpm s s.arg0 ∧ (s.params.ifaceName = .config → InOpm s s.arg1) ∧ s.arg2.getLsbD 0 = true ∧
      s.env.parseEndpointUrl = .ok { target := multicastText, vid := 0#16, prio := 0#8 } :: [] ∧
      parseHw s.params.groupDigits multicastText = some group ∧ 0 < s.params.numChannels ∧ (s.chan 0).valid = false ∧
      (∀ j < 0, (s.chan j).valid = true) ∧ s.env.resolveInterface = .ok { ifh := 2#32, lmac := 0x020000AABBCC#48 } :: [] ∧
      s.params.ifaceName = .config ∧ operandBytes s s.arg1 = [0x65, 0x30] := by decide

/-- FIXED mode, the last slot of a full table. -/
theorem witness_OpenCreatesChannel_fixed :
    let s := { openingFixed willing with channels := List.replicate 7 tagged ++ [Channel.free] }
    s.params.Legal ∧ InOpm s s.arg0 ∧ (s.params.ifaceName = .config → InOpm s s.arg1) ∧ s.arg2.getLsbD 0 = true ∧
      s.env.parseEndpointUrl = .ok { target := multicastText, vid := 0#16, prio := 0#8 } :: [] ∧
      parseHw s.params.groupDigits multicastText = some group ∧ 7 < s.params.numChannels ∧ (s.chan 7).valid = false ∧
      (∀ j < 7, (s.chan j).valid = true) ∧ s.env.resolveInterface = .ok { ifh := 2#32, lmac := 0x020000AABBCC#48 } :: [] ∧
      s.params.ifaceName = .fixed [0x65, 0x30] := by decide

/-- ADDR_KIND = 0 with every other bit of ARG2 set, and a URL parser that fails. -/
theorem witness_OpenFailuresChangeNothing_configuration :
    let s := { opening willing with arg2 := 0xFFFFFFFE#32 }
    let t := opening unwilling
    InOpm s s.arg0 ∧ InOpm s s.arg1 ∧ s.arg2.getLsbD 0 = false ∧
      InOpm t t.arg0 ∧ InOpm t t.arg1 ∧ t.arg2.getLsbD 0 = true ∧ t.env.parseEndpointUrl = .err :: [] := by decide

theorem witness_OpenFailuresChangeNothing_address :
    let s := opening { willing with parseEndpointUrl := [.ok { target := shortText, vid := 0#16, prio := 0#8 }] }
    InOpm s s.arg0 ∧ InOpm s s.arg1 ∧ s.arg2.getLsbD 0 = true ∧
      s.env.parseEndpointUrl = .ok { target := shortText, vid := 0#16, prio := 0#8 } :: [] ∧
      parseHw s.params.groupDigits shortText = none := by decide

/-- A full table, and a resolver that fails. -/
theorem witness_OpenFailuresChangeNothing_slot_and_interface :
    let s := { opening willing with channels := List.replicate 8 tagged }
    let t := opening { willing with resolveInterface := [.err] }
    InOpm s s.arg0 ∧ InOpm s s.arg1 ∧ s.arg2.getLsbD 0 = true ∧ parseHw s.params.groupDigits multicastText = some group ∧
      s.env.parseEndpointUrl = .ok { target := multicastText, vid := 0#16, prio := 0#8 } :: [] ∧
      t.env.parseEndpointUrl = .ok { target := multicastText, vid := 0#16, prio := 0#8 } :: [] ∧
      (∀ j < s.params.numChannels, (s.chan j).valid = true) ∧ 7 < t.params.numChannels ∧ (t.chan 7).valid = false ∧
      t.env.resolveInterface = .err :: [] := by decide

/-- CONFIG mode resolves the text at ARG1, FIXED mode the fixed name, with ARG1 out of range. -/
theorem witness_OpenResolvesTheChosenName :
    let name : Event := .resolveInterface [0x65, 0x30] (.ok { ifh := 2#32, lmac := 0x020000AABBCC#48 })
    (∃ t, exec .openChannel (opening willing) = .next t ∧ (opening willing).params.ifaceName = .config ∧
        t.history = (opening willing).history ++ t.history ∧ name ∈ t.history) ∧
      ∃ t, exec .openChannel (openingFixed willing) = .next t ∧ (openingFixed willing).params.ifaceName = .fixed [0x65, 0x30] ∧
        t.history = (openingFixed willing).history ++ t.history ∧ name ∈ t.history :=
  ⟨next_of_after _ (by decide), next_of_after _ (by decide)⟩

/-- A target that is not multicast: a station, and the broadcast address. -/
theorem witness_RegisterResult_no_group :
    ∀ c ∈ [channelWith .publisher 0#16 0#8 station, channelWith .ready 0#16 0#8 0xFFFFFFFFFFFF#48],
      OpenSlot (withChannel c) 0#8 c ∧ c.state ∈ [ChState.publisher, .ready] ∧ ¬ Multicast c.tmac := by decide

theorem witness_RegisterResult_group :
    ∀ c ∈ [untagged, channelWith .ready 0#16 0#8 0xFFFFFFFFFFFE#48],
      let s := { withChannel c with env := willing }
      let t := { withChannel c with env := unwilling }
      OpenSlot s 0#8 c ∧ OpenSlot t 0#8 c ∧ c.state ∈ [ChState.publisher, .ready] ∧ Multicast c.tmac ∧
        s.env.joinGroup = .ok () :: [] ∧ t.env.joinGroup = .err :: [] := by decide

theorem witness_UnregisterResult_no_group :
    ∀ c ∈ [channelWith .publisherSubscriber 0#16 0#8 station, channelWith .subscriber 0#16 0#8 0xFFFFFFFFFFFF#48],
      OpenSlot (withChannel c) 0#8 c ∧ c.state ∈ [ChState.publisherSubscriber, .subscriber] ∧ ¬ Multicast c.tmac := by decide

theorem witness_UnregisterResult_group :
    ∀ c ∈ [channelWith .publisherSubscriber 0#16 0#8 group, channelWith .subscriber 0#16 0#8 0xFFFFFFFFFFFE#48],
      let s := { withChannel c with env := willing }
      let t := { withChannel c with env := unwilling }
      OpenSlot s 0#8 c ∧ OpenSlot t 0#8 c ∧ c.state ∈ [ChState.publisherSubscriber, .subscriber] ∧ Multicast c.tmac ∧
        s.env.leaveGroup = .ok () :: [] ∧ t.env.leaveGroup = .err :: [] := by decide

theorem witness_RegisterTransition_publisher :
    let s := { withChannel untagged with env := willing }
    s.params.regTransition = .mirror ∧ (s.chan 0).state = .publisher ∧
      ∃ t, exec (.register 0#8) s = .next t ∧ t.resp.status = 0x00#32 :=
  ⟨by decide, by decide, next_of_after _ (by decide)⟩

theorem witness_RegisterTransition_ready :
    let s := withChannel (channelWith .ready 0#16 0#8 station)
    s.params.regTransition = .mirror ∧ (s.chan 0).state = .ready ∧
      ∃ t, exec (.register 0#8) s = .next t ∧ t.resp.status = 0x00#32 :=
  ⟨by decide, by decide, next_of_after _ (by decide)⟩

theorem witness_RegisterTransition_none :
    let s := withMode .none { withChannel untagged with env := willing }
    s.params.regTransition = .none ∧ ∃ t, exec (.register 0#8) s = .next t ∧ t.resp.status = 0x00#32 :=
  ⟨by decide, next_of_after _ (by decide)⟩

theorem witness_UnregisterTransition_publisherSubscriber :
    let s := { withChannel (channelWith .publisherSubscriber 0#16 0#8 group) with env := willing }
    s.params.regTransition = .mirror ∧ (s.chan 0).state = .publisherSubscriber ∧
      ∃ t, exec (.unregister 0#8) s = .next t ∧ t.resp.status = 0x00#32 :=
  ⟨by decide, by decide, next_of_after _ (by decide)⟩

theorem witness_UnregisterTransition_subscriber :
    let s := withChannel (channelWith .subscriber 0#16 0#8 station)
    s.params.regTransition = .mirror ∧ (s.chan 0).state = .subscriber ∧
      ∃ t, exec (.unregister 0#8) s = .next t ∧ t.resp.status = 0x00#32 :=
  ⟨by decide, by decide, next_of_after _ (by decide)⟩

theorem witness_UnregisterTransition_none :
    let s := withMode .none (withChannel (channelWith .subscriber 0#16 0#8 station))
    s.params.regTransition = .none ∧ ∃ t, exec (.unregister 0#8) s = .next t ∧ t.resp.status = 0x00#32 :=
  ⟨by decide, next_of_after _ (by decide)⟩

theorem witness_UnregisterUndoesRegister :
    let s := { withChannel untagged with env := willing }
    ∃ t, exec (.register 0#8) s = .next t ∧ t.resp.status = 0x00#32 ∧
      ∃ u, exec (.unregister 0#8) t = .next u ∧ u.resp.status = 0x00#32 := by
  obtain ⟨t, ht, hs, hu⟩ := next_of_after (o := exec (.register 0#8) { withChannel untagged with env := willing })
    (fun t => t.resp.status = 0x00#32 ∧ after (exec (.unregister 0#8) t) (fun u => decide (u.resp.status = 0x00#32)) = some true)
    (by decide)
  exact ⟨t, ht, hs, next_of_after _ hu⟩

/-- A tagged frame sent, an untagged one that the transmitter refuses. -/
theorem witness_SendTransmitsFrame :
    let s := sending tagged willing
    let t := sending untagged { willing with transmit := [.err] }
    OpenSlot s 0#8 tagged ∧ tagged.state ∈ [ChState.publisher, .publisherSubscriber] ∧ InOpm s s.arg0 ∧
      s.env.allocateFrame = .ok 7#32 :: [] ∧ s.env.transmit = .ok () :: [] ∧ s.env.freeFrame = () :: [] ∧
      OpenSlot t 0#8 untagged ∧ untagged.state ∈ [ChState.publisher, .publisherSubscriber] ∧ InOpm t t.arg0 ∧
      t.env.allocateFrame = .ok 7#32 :: [] ∧ t.env.transmit = .err :: [] ∧ t.env.freeFrame = () :: [] := by decide

theorem witness_SendAllocationFailure :
    let s := sending tagged unwilling
    OpenSlot s 0#8 tagged ∧ tagged.state ∈ [ChState.publisher, .publisherSubscriber] ∧ InOpm s s.arg0 ∧
      s.env.allocateFrame = .err :: [] := by decide

/-- The three outcomes the statement tells apart: transmitted, refused by the transmitter, not allocated. -/
theorem witness_SendReleasesEveryBuffer :
    (∃ t, exec (.send 0#8) (sending tagged willing) = .next t ∧ t.resp.status = 0x00#32) ∧
      (∃ t, exec (.send 0#8) (sending tagged { willing with transmit := [.err] }) = .next t ∧ t.resp.status = 0x06#32) ∧
      ∃ t, exec (.send 0#8) (sending tagged unwilling) = .next t ∧ t.resp.status = 0x05#32 :=
  ⟨next_of_after _ (by decide), next_of_after _ (by decide), next_of_after _ (by decide)⟩

theorem witness_TagControlFields :
    let c := channelWith .publisher 4095#16 7#8 group
    c.vid.toNat ≤ 4095 ∧ c.prio.toNat ≤ 7 := by decide

theorem witness_FrameBufferIsWrittenWhole :
    let f : FrameBuffer := { handle := 7#32, bytes := [1, 2, 3, 4, 5, 6] }
    let s := { State.reset with frame := some f }
    s.frame = some f ∧ f.bytes.length = tagged.frameSize [0xDE#8, 0xAD#8].length := by decide

theorem witness_ReceiveResult :
    ∀ c ∈ [untagged, channelWith .publisherSubscriber 100#16 5#8 group],
      OpenSlot (withChannel c) 0#8 c ∧ c.state ∈ [ChState.publisher, .publisherSubscriber] := by decide

theorem witness_CloseResult :
    ∀ c ∈ [tagged, channelWith .error 0#16 0#8 group, channelWith .unconfigured 0#16 0#8 group],
      OpenSlot (withChannel c) 0#8 c := by decide

/-- Each channel command in a legal state that gives a next state, and in an illegal one. -/
theorem witness_StateGating :
    let s := withChannel (channelWith .error 0#16 0#8 station)
    let t := { sending untagged willing with channels := List.replicate 8 untagged }
    (∀ i ∈ [Instr.register 0#8, .unregister 0#8, .send 0#8, .receive 0#8],
        i.isChannelCommand = true ∧ OpenSlot s i.chField (channelWith .error 0#16 0#8 station) ∧ InOpm s s.arg0 ∧
          (channelWith .error 0#16 0#8 station).state ∉ legalStates i) ∧
      ∀ i ∈ [Instr.register 7#8, .send 7#8, .receive 7#8, .close 7#8],
        i.isChannelCommand = true ∧ OpenSlot t i.chField untagged ∧ untagged.state ∈ legalStates i ∧
          after (exec i t) (fun u => u.resp.status) = some 0#32 := by decide

theorem witness_FailuresKeepChannels :
    let s := sending tagged unwilling
    (∃ t, exec (.send 0#8) s = .next t ∧ t.resp.status ≠ 0x00#32) ∧ s.frame = none ∧
      ∃ t, exec (.receive 0#8) (withChannel (channelWith .error 0#16 0#8 group)) = .next t ∧ (t.chan 0).state = .error :=
  ⟨next_of_after _ (by decide), by decide, next_of_after _ (by decide)⟩

/-- OPEN creates, CLOSE destroys, and the reset input clears. -/
theorem witness_ConfigurationImmutableWhileOpen :
    (∃ t, step (about (.write32 0#17 1#32) (opening willing)) = .next t ∧
        configuration (t.chan 0) ≠ configuration ((opening willing).chan 0)) ∧
      (∃ t, step (about (.write32 0#17 6#32) (withChannel tagged)) = .next t ∧
        configuration (t.chan 0) ≠ configuration ((withChannel tagged).chan 0)) ∧
      ∃ t, step (about .reset (withChannel tagged)) = .next t ∧
        configuration (t.chan 0) ≠ configuration ((withChannel tagged).chan 0) :=
  ⟨next_of_after _ (by decide), next_of_after _ (by decide), next_of_after _ (by decide)⟩

theorem witness_ChannelsAreIndependent : (Instr.close 0#8).isChannelCommand = true ∧ 7 ≠ (Instr.close 0#8).chField.toNat := by
  decide

theorem witness_CommandsLeaveHostSide : ∃ t, exec (.send 0#8) (sending tagged willing) = .next t ∧ t.resp.status = 0#32 :=
  next_of_after _ (by decide)

/-- PARSE_HWADDR, IS_MULTICAST, RECEIVE and CLOSE each answer a next state. -/
theorem witness_LocalCommandsAskNothing :
    ∀ i ∈ [Instr.parseHwaddr, .isMulticast, .receive 0#8, .close 0#8], ∃ t, exec i (sending tagged willing) = .next t := by
  have h : ∀ i ∈ [Instr.parseHwaddr, .isMulticast, .receive 0#8, .close 0#8],
      after (exec i (sending tagged willing)) (fun t => decide (t.env = willing)) = some true := by decide
  intro i hi
  obtain ⟨t, ht, _⟩ := next_of_after (fun t => t.env = willing) (h i hi)
  exact ⟨t, ht⟩

/-- A command that runs, an illegal word and a faulted block. -/
theorem witness_UnwrittenResponseReadsZero :
    (about (.write32 0#17 9#32) State.reset).inputs = .write32 0#17 9#32 :: [] ∧
      (∃ t, step (about (.write32 0#17 9#32) State.reset) = .next t ∧ t.resp.status = 0x00#32) ∧
      (∃ t, step (about (.write32 0#17 7#32) State.reset) = .next t ∧ t.resp.status = 0xFF#32) ∧
      ∃ t, step (about (.write32 0#17 8#32) faulted) = .next t ∧ t.resp.status = 0xFF#32 :=
  ⟨by decide, next_of_after _ (by decide), next_of_after _ (by decide), next_of_after _ (by decide)⟩

/-- A step that asks ENV three times. -/
theorem witness_HistoryRecordsEveryAnswer :
    ∃ t, step (about (.write32 0#17 4#32) (sending tagged willing)) = .next t ∧ t.history.length = 3 :=
  next_of_after (fun t => t.history.length = 3) (by decide)

/-- An ENV with an answer of every kind, and a silent one that leaves a SEND stuck. -/
theorem witness_OnlySilenceStopsCommands :
    (∀ r, answersLeft willing r ≠ 0) ∧ stuckOn (exec (.send 0#8) (sending tagged .silent)) = some .allocateFrame :=
  ⟨fun r => by cases r <;> decide, by decide⟩

theorem witness_UnansweredRequestIsStuck_group :
    let s := withChannel untagged
    let t := withChannel (channelWith .subscriber 0#16 0#8 group)
    OpenSlot s 0#8 untagged ∧ Multicast untagged.tmac ∧ untagged.state ∈ legalStates (.register 0#8) ∧ s.env.joinGroup = [] ∧
      OpenSlot t 0#8 (channelWith .subscriber 0#16 0#8 group) ∧ ChState.subscriber ∈ legalStates (.unregister 0#8) ∧
      t.env.leaveGroup = [] := by decide

theorem witness_UnansweredRequestIsStuck_send :
    let s := sending tagged { willing with transmit := [] }
    let t := sending tagged { willing with freeFrame := [] }
    OpenSlot s 0#8 tagged ∧ tagged.state ∈ legalStates (.send 0#8) ∧ InOpm s s.arg0 ∧
      (sending tagged .silent).env.allocateFrame = [] ∧ s.env.allocateFrame = .ok 7#32 :: [] ∧ s.env.transmit = [] ∧
      t.env.allocateFrame = .ok 7#32 :: [] ∧ t.env.transmit ≠ [] ∧ t.env.freeFrame = [] := by decide

theorem witness_UnansweredRequestIsStuck_open :
    let s := opening .silent
    let t := opening { willing with resolveInterface := [] }
    InOpm s s.arg0 ∧ (s.params.ifaceName = .config → InOpm s s.arg1) ∧ s.arg2.getLsbD 0 = true ∧ s.env.parseEndpointUrl = [] ∧
      t.env.parseEndpointUrl = .ok { target := multicastText, vid := 0#16, prio := 0#8 } :: [] ∧
      parseHw t.params.groupDigits multicastText = some group ∧ 0 < t.params.numChannels ∧ (t.chan 0).valid = false ∧
      t.env.resolveInterface = [] := by decide

theorem witness_StatusCodesByCommand : ∃ t, exec (.send 0#8) (sending tagged unwilling) = .next t ∧ t.resp.status = 0x05#32 :=
  next_of_after _ (by decide)

/-- ARG1 words that agree in [15:0] and ARG2 words that agree in bit 0 only. -/
theorem witness_UnreadArgumentsIgnored :
    (0xABCD0001#32).extractLsb' 0 16 = ({ State.reset with arg1 := 0x00000001#32 }).arg1.extractLsb' 0 16 ∧
      (0xFFFFFFFF#32).getLsbD 0 = ({ State.reset with arg2 := 0x00000001#32 }).arg2.getLsbD 0 := by decide

end Sys2Proof.Tests
end

namespace Sys2Proof.Proofs.Scope
/-! What a command can end in (R18, R168): a next state, or a stop on a request of a kind ENV gives no answer of. The
predicate is relative to the answers at the command's start, so that it composes along a command's requests. -/

open Sys2Proof Sys2Proof.Machine Sys2Proof.Claims

/-- The outcome is a next state, or the stuck fault of a request kind of which `env` has no answer. -/
inductive NextOrSilent (env : EnvAnswers) : Out → Prop where
  | next (t : State) : NextOrSilent env (.next t)
  | silent {r : EnvRequest} (h : answersLeft env r = 0) : NextOrSilent env (.fault (.envSilent r))

variable {env : EnvAnswers} {s : State} {o : Out} {ch : BitVec 8}

theorem NextOrSilent.ne_refused (h : NextOrSilent env o) (ρ : Refusal) : o ≠ .refused ρ := by
  cases h with
  | next t => exact nofun
  | silent h0 => exact nofun

theorem NextOrSilent.answersLeft_eq_zero {r : EnvRequest} (h : NextOrSilent env o) (ho : o = .fault (.envSilent r)) :
    answersLeft env r = 0 := by
  subst ho
  cases h with
  | silent h0 => exact h0

theorem NextOrSilent.exists_next (h : NextOrSilent env o) (hall : ∀ r, answersLeft env r ≠ 0) : ∃ t, o = .next t := by
  cases h with
  | next t => exact ⟨t, rfl⟩
  | silent h0 => exact absurd h0 (hall _)

/-! The checks that stand before a command's body. -/

section Checks

variable {k : State → Out}

theorem requireOpen_nextOrSilent (hk : NextOrSilent env (k s)) : NextOrSilent env (requireOpen ch s k) := by
  unfold requireOpen
  split
  · exact hk
  · exact .next _

theorem requireRange_nextOrSilent {ds : List Word32} (hk : NextOrSilent env (k s)) :
    NextOrSilent env (requireRange ds s k) := by
  unfold requireRange
  split
  · exact hk
  · exact .next _

theorem requireState_nextOrSilent {legal : List ChState} {c : Channel} (hk : NextOrSilent env (k s)) :
    NextOrSilent env (requireState legal c s k) := by
  unfold requireState
  split
  · exact hk
  · exact .next _

end Checks

/-! The requests. `henv` says that the answers of this kind are still those the command started with; what follows an
answer is judged by `hk`, whichever answer it is. -/

theorem askParseEndpointUrl_nextOrSilent {url : List Byte} {k : Answer UrlParts → State → Out}
    (henv : s.env.parseEndpointUrl = env.parseEndpointUrl)
    (hk : ∀ a rest, NextOrSilent env
      (k a (s.answered { s.env with parseEndpointUrl := rest } (.parseEndpointUrl url a)))) :
    NextOrSilent env (askParseEndpointUrl url s k) := by
  unfold askParseEndpointUrl
  split
  · next he => exact .silent (by simp [answersLeft, ← henv, he])
  · exact hk _ _

theorem askResolveInterface_nextOrSilent {name : List Byte} {k : Answer IfaceInfo → State → Out}
    (henv : s.env.resolveInterface = env.resolveInterface)
    (hk : ∀ a rest, NextOrSilent env
      (k a (s.answered { s.env with resolveInterface := rest } (.resolveInterface name a)))) :
    NextOrSilent env (askResolveInterface name s k) := by
  unfold askResolveInterface
  split
  · next he => exact .silent (by simp [answersLeft, ← henv, he])
  · exact hk _ _

theorem askAllocateFrame_nextOrSilent {size : Word32} {k : Answer Word32 → State → Out}
    (henv : s.env.allocateFrame = env.allocateFrame)
    (hk : ∀ a rest, NextOrSilent env (k a (s.answered { s.env with allocateFrame := rest } (.allocateFrame size a)))) :
    NextOrSilent env (askAllocateFrame size s k) := by
  unfold askAllocateFrame
  split
  · next he => exact .silent (by simp [answersLeft, ← henv, he])
  · exact hk _ _

theorem askTransmit_nextOrSilent {ifh fb : Word32} {src dst : Mac48} {et : BitVec 16} {k : Answer Unit → State → Out}
    (henv : s.env.transmit = env.transmit)
    (hk : ∀ a rest, NextOrSilent env
      (k a (s.answered { s.env with transmit := rest } (.transmit ifh fb src dst et s.frameBytes a)))) :
    NextOrSilent env (askTransmit ifh fb src dst et s k) := by
  unfold askTransmit
  split
  · next he => exact .silent (by simp [answersLeft, ← henv, he])
  · exact hk _ _

theorem askFreeFrame_nextOrSilent {fb : Word32} {k : State → Out} (henv : s.env.freeFrame = env.freeFrame)
    (hk : ∀ rest, NextOrSilent env (k (s.answered { s.env with freeFrame := rest } (.freeFrame fb)).dropFrame)) :
    NextOrSilent env (askFreeFrame fb s k) := by
  unfold askFreeFrame
  split
  · next he => exact .silent (by simp [answersLeft, ← henv, he])
  · exact hk _

theorem askJoinGroup_nextOrSilent {ifh : Word32} {mac : Mac48} {k : Answer Unit → State → Out}
    (henv : s.env.joinGroup = env.joinGroup)
    (hk : ∀ a rest, NextOrSilent env (k a (s.answered { s.env with joinGroup := rest } (.joinGroup ifh mac a)))) :
    NextOrSilent env (askJoinGroup ifh mac s k) := by
  unfold askJoinGroup
  split
  · next he => exact .silent (by simp [answersLeft, ← henv, he])
  · exact hk _ _

theorem askLeaveGroup_nextOrSilent {ifh : Word32} {mac : Mac48} {k : Answer Unit → State → Out}
    (henv : s.env.leaveGroup = env.leaveGroup)
    (hk : ∀ a rest, NextOrSilent env (k a (s.answered { s.env with leaveGroup := rest } (.leaveGroup ifh mac a)))) :
    NextOrSilent env (askLeaveGroup ifh mac s k) := by
  unfold askLeaveGroup
  split
  · next he => exact .silent (by simp [answersLeft, ← henv, he])
  · exact hk _ _

/-! The commands, in the order of their meanings. -/

theorem execParseHwaddr_nextOrSilent : NextOrSilent env (execParseHwaddr s) := by
  refine requireRange_nextOrSilent ?_
  unfold parseHwaddrBody
  split
  · exact .next _
  · exact .next _

/-- Filling the buffer leaves ENV's answers. -/
theorem buildFrame_env (c : Channel) (payload : List Byte) : (s.buildFrame c payload).env = s.env := by
  obtain ⟨f, hf⟩ := s.buildFrame_eq c payload
  rw [hf]

/-- SEND holding a buffer can stop at Transmit or at FreeFrame. -/
theorem sendFrame_nextOrSilent {c : Channel} {payload : List Byte} {fb : Word32}
    (htransmit : s.env.transmit = env.transmit) (hfree : s.env.freeFrame = env.freeFrame) :
    NextOrSilent env (sendFrame c payload fb s) := by
  have hbuild := buildFrame_env (s := s) c payload
  refine askTransmit_nextOrSilent (by rw [hbuild, htransmit]) fun x rest => ?_
  refine askFreeFrame_nextOrSilent (by rw [State.answered_env, hbuild, hfree]) fun rest' => ?_
  exact .next _

theorem execSend_nextOrSilent : NextOrSilent s.env (execSend ch s) := by
  refine requireOpen_nextOrSilent (requireRange_nextOrSilent (requireState_nextOrSilent ?_))
  refine askAllocateFrame_nextOrSilent rfl fun a rest => ?_
  cases a with
  | err => exact .next _
  | ok fb => exact sendFrame_nextOrSilent rfl rfl

theorem execReceive_nextOrSilent : NextOrSilent env (execReceive ch s) :=
  requireOpen_nextOrSilent (requireState_nextOrSilent (.next _))

theorem openTarget_nextOrSilent {u : UrlParts} (henv : s.env.resolveInterface = env.resolveInterface) :
    NextOrSilent env (openTarget u s) := by
  unfold openTarget
  split
  · exact .next _
  · split
    · exact .next _
    · refine askResolveInterface_nextOrSilent henv fun q rest => ?_
      cases q with
      | err => exact .next _
      | ok f => exact .next _

theorem execOpen_nextOrSilent : NextOrSilent s.env (execOpen s) := by
  refine requireRange_nextOrSilent ?_
  unfold openBody
  split
  · refine askParseEndpointUrl_nextOrSilent rfl fun r rest => ?_
    cases r with
    | err => exact .next _
    | ok u => exact openTarget_nextOrSilent rfl
  · exact .next _

/-- The end of REGISTER and UNREGISTER asks nothing. -/
theorem finishGroup_nextOrSilent {st : ChState} {r : Answer Unit} : NextOrSilent env (finishGroup ch st r s) := by
  cases r with
  | err => exact .next _
  | ok u => exact .next _

theorem execRegister_nextOrSilent : NextOrSilent s.env (execRegister ch s) := by
  refine requireOpen_nextOrSilent (requireState_nextOrSilent ?_)
  split
  · exact askJoinGroup_nextOrSilent rfl fun _ _ => finishGroup_nextOrSilent
  · exact finishGroup_nextOrSilent

theorem execUnregister_nextOrSilent : NextOrSilent s.env (execUnregister ch s) := by
  refine requireOpen_nextOrSilent (requireState_nextOrSilent ?_)
  split
  · exact askLeaveGroup_nextOrSilent rfl fun _ _ => finishGroup_nextOrSilent
  · exact finishGroup_nextOrSilent

theorem execClose_nextOrSilent : NextOrSilent env (execClose ch s) := requireOpen_nextOrSilent (.next _)

/-- Every command, from every state, ends in a next state or stops on a request that ENV does not answer. -/
theorem exec_nextOrSilent (i : Instr) (s : State) : NextOrSilent s.env (exec i s) := by
  cases i with
  | openChannel => exact execOpen_nextOrSilent
  | register ch => exact execRegister_nextOrSilent
  | unregister ch => exact execUnregister_nextOrSilent
  | send ch => exact execSend_nextOrSilent
  | receive ch => exact execReceive_nextOrSilent
  | close ch => exact execClose_nextOrSilent
  | parseHwaddr => exact execParseHwaddr_nextOrSilent
  | isMulticast => exact .next _

/-- Settles O52: the three clauses are read off `exec_nextOrSilent`, which follows each command request by request. -/
theorem onlySilenceStopsCommands : Obligations.OnlySilenceStopsCommands := by
  unfold Obligations.OnlySilenceStopsCommands
  intro i s
  have h := exec_nextOrSilent i s
  exact ⟨h.ne_refused, fun _ => h.answersLeft_eq_zero, h.exists_next⟩

end Sys2Proof.Proofs.Scope

namespace Sys2Proof.Proofs.BlockState
/-! What a command and a host access leave behind (spec/10_state.md). Two inductive relations say it once:
`CommandLeaves` for the commands and `AccessLeaves` for what the HOST performs. `exec_leaves` and `step_leaves` tie
them to `exec` and `step`, and the claims about registers, channel table and invariant are read off their cases. -/

open Sys2Proof Sys2Proof.Machine Sys2Proof.Claims

variable {s t : State} {i : Instr} {op : HostOp} {ch : BitVec 8}

/-! What a command leaves behind. -/

/-- What ENV requests change: the frame buffer, the event history and the answers still to come (R168). -/
def afterRequests (frame : Option FrameBuffer) (history : List Event) (env : EnvAnswers) (s : State) : State :=
  { s with frame := frame, history := history, env := env }

/-- The transitions of a successful REGISTER and UNREGISTER (R117, R119). -/
inductive MovesState : Instr → ChState → ChState → Prop
  | register {ch : BitVec 8} {st : ChState} (h : st ∈ [ChState.publisher, .ready]) :
      MovesState (.register ch) st (registeredState st)
  | unregister {ch : BitVec 8} {st : ChState} (h : st ∈ [ChState.publisherSubscriber, .subscriber]) :
      MovesState (.unregister ch) st (unregisteredState st)

/-- `CommandLeaves s i t`: the command `i`, started in `s`, can leave `t`. The history and the answers that ENV requests
leave are free here; the buffer is the one found, or none. -/
inductive CommandLeaves (s : State) : Instr → State → Prop
  /-- A decode fault (R72, R79, R154). -/
  | fault {i : Instr} (cause : FaultCause) : CommandLeaves s i (s.commandFault cause)
  /-- A global command that fails writes RESP_STATUS alone. -/
  | failed {i : Instr} {st : Status} (hi : i.isChannelCommand = false) (hst : st ≠ .ok) (history : List Event)
      (env : EnvAnswers) : CommandLeaves s i ((afterRequests s.frame history env s).respond st)
  /-- A channel command that writes RESP_CH and RESP_STATUS alone, whichever way it ends. -/
  | answered {i : Instr} {st : Status} (hi : i.isChannelCommand = true) (hst : st ≠ .faulted)
      {frame : Option FrameBuffer} (hframe : frame = s.frame ∨ frame = none) (history : List Event) (env : EnvAnswers) :
      CommandLeaves s i ((afterRequests frame history env (s.setRespCh i.chField.toNat)).respond st)
  /-- A successful OPEN (R112). -/
  | opened {n : Nat} (hfree : s.freeSlot = some n) (u : UrlParts) (f : IfaceInfo) (tmac : Mac48) (history : List Event)
      (env : EnvAnswers) : CommandLeaves s .openChannel
        ((((afterRequests s.frame history env s).setChannel n (openedChannel u f tmac)).setRespCh n).respond .ok)
  /-- A successful REGISTER or UNREGISTER in MIRROR mode (R117, R119). -/
  | moved {i : Instr} {st : ChState} (hi : i.isChannelCommand = true) (hopen : s.slotOpen i.chField = true)
      (hmode : s.params.regTransition = .mirror) (hmove : MovesState i (s.chan i.chField.toNat).state st)
      (history : List Event) (env : EnvAnswers) : CommandLeaves s i
        (((afterRequests s.frame history env (s.setRespCh i.chField.toNat)).setChannelState i.chField.toNat st).respond
          .ok)
  /-- A successful CLOSE (R128). -/
  | closed {ch : BitVec 8} (hopen : s.slotOpen ch = true) : CommandLeaves s (.close ch)
      (((s.setRespCh ch.toNat).setChannel ch.toNat Channel.free).respond .ok)
  /-- A successful PARSE_HWADDR (R98). -/
  | parsed (m : Mac48) : CommandLeaves s .parseHwaddr ((s.setRespMac m).respond .ok)
  /-- IS_MULTICAST (R99). -/
  | classified (c : AddrClass) : CommandLeaves s .isMulticast ((s.setRespFlags (classFlags c)).respond .ok)
  /-- A successful RECEIVE (R127). -/
  | received {ch : BitVec 8} : CommandLeaves s (.receive ch)
      ((((s.setRespCh ch.toNat).setRespLen 0#16).setRespFlags rxUnimplFlag).respond .ok)

/-- The success of REGISTER and UNREGISTER: a move in MIRROR mode, the table kept in NONE mode. -/
theorem transition_leaves {st : ChState} (hi : i.isChannelCommand = true) (hopen : s.slotOpen i.chField = true)
    (hmove : MovesState i (s.chan i.chField.toNat).state st) (history : List Event) (env : EnvAnswers) :
    CommandLeaves s i
      (((afterRequests s.frame history env (s.setRespCh i.chField.toNat)).transition i.chField st).respond .ok) := by
  unfold State.transition
  split
  · next hmode => exact .moved hi hopen hmode hmove history env
  · exact .answered hi (by decide) (.inl rfl) history env

theorem execOpen_leaves (h : execOpen s = .next t) : CommandLeaves s .openChannel t := by
  rcases execOpen_next h with ⟨_, rfl⟩ | ⟨_, ⟨_, rfl⟩ | ⟨_, r, rest, _, v, rfl, ho⟩⟩
  · exact .fault .operandRange
  · exact .failed (by rfl) (by decide) s.history s.env
  · rcases ho with ⟨_, rfl⟩ | ⟨u, _, ⟨_, rfl⟩ | ⟨tmac, _, ⟨_, rfl⟩ | ⟨n, q, rest', hfree, _, w, rfl, hq⟩⟩⟩
    · exact .failed (by rfl) (by decide) _ _
    · exact .failed (by rfl) (by decide) _ _
    · exact .failed (by rfl) (by decide) _ _
    · rcases hq with ⟨_, rfl⟩ | ⟨f, _, rfl⟩
      · exact .failed (by rfl) (by decide) _ _
      · exact .opened hfree u f tmac _ _

theorem execRegister_leaves (h : execRegister ch s = .next t) : CommandLeaves s (.register ch) t := by
  rcases execRegister_next h with ⟨_, rfl⟩ | ⟨hopen, ⟨_, rfl⟩ | ⟨hs, _, rfl⟩ | ⟨hs, _, a, rest, _, u, rfl, ha⟩⟩
  · exact .fault .danglingHandle
  · exact .answered (by rfl) (by decide) (.inl rfl) s.history s.env
  · exact transition_leaves (i := .register ch) rfl hopen (.register hs) s.history s.env
  · rcases ha with ⟨_, rfl⟩ | ⟨_, rfl⟩
    · exact .answered (by rfl) (by decide) (.inl rfl) _ _
    · exact transition_leaves (i := .register ch) rfl hopen (.register hs) _ _

theorem execUnregister_leaves (h : execUnregister ch s = .next t) : CommandLeaves s (.unregister ch) t := by
  rcases execUnregister_next h with ⟨_, rfl⟩ | ⟨hopen, ⟨_, rfl⟩ | ⟨hs, _, rfl⟩ | ⟨hs, _, a, rest, _, u, rfl, ha⟩⟩
  · exact .fault .danglingHandle
  · exact .answered (by rfl) (by decide) (.inl rfl) s.history s.env
  · exact transition_leaves (i := .unregister ch) rfl hopen (.unregister hs) s.history s.env
  · rcases ha with ⟨_, rfl⟩ | ⟨_, rfl⟩
    · exact .answered (by rfl) (by decide) (.inl rfl) _ _
    · exact transition_leaves (i := .unregister ch) rfl hopen (.unregister hs) _ _

theorem transmitStatus_ne_faulted (x : Answer Unit) : transmitStatus x ≠ .faulted := by
  cases x with
  | ok u => exact nofun
  | err => exact nofun

/-- A SEND that held a buffer has released it. -/
theorem execSend_leaves (h : execSend ch s = .next t) : CommandLeaves s (.send ch) t := by
  rcases execSend_next h with ⟨_, rfl⟩ | ⟨_, ⟨_, rfl⟩ | ⟨_, ⟨_, rfl⟩ | ⟨_, a, rest, _, u, rfl, ha⟩⟩⟩
  · exact .fault .danglingHandle
  · exact .fault .operandRange
  · exact .answered (by rfl) (by decide) (.inl rfl) s.history s.env
  · rcases ha with ⟨_, rfl⟩ | ⟨fb, _, hsend⟩
    · exact .answered (by rfl) (by decide) (.inl rfl) _ _
    · obtain ⟨x, _, _, _, _, _, rfl⟩ := sendFrame_next hsend
      obtain ⟨f, hf⟩ := State.buildFrame_eq _ (s.chan ch.toNat) (s.operand s.arg0)
      rw [hf]
      exact .answered (by rfl) (transmitStatus_ne_faulted x) (.inr rfl) _ _

theorem execReceive_leaves (h : execReceive ch s = .next t) : CommandLeaves s (.receive ch) t := by
  rcases execReceive_next h with ⟨_, rfl⟩ | ⟨_, ⟨_, rfl⟩ | ⟨_, rfl⟩⟩
  · exact .fault .danglingHandle
  · exact .answered (by rfl) (by decide) (.inl rfl) s.history s.env
  · exact .received

theorem execClose_leaves (h : execClose ch s = .next t) : CommandLeaves s (.close ch) t := by
  rcases execClose_next h with ⟨_, rfl⟩ | ⟨hopen, rfl⟩
  · exact .fault .danglingHandle
  · exact .closed hopen

theorem execParseHwaddr_leaves (h : execParseHwaddr s = .next t) : CommandLeaves s .parseHwaddr t := by
  rcases execParseHwaddr_next h with ⟨_, rfl⟩ | ⟨_, ⟨m, _, rfl⟩ | ⟨_, rfl⟩⟩
  · exact .fault .operandRange
  · exact .parsed m
  · exact .failed (by rfl) (by decide) s.history s.env

theorem execIsMulticast_leaves (h : execIsMulticast s = .next t) : CommandLeaves s .isMulticast t := by
  rw [execIsMulticast_next h]
  exact .classified _

/-- Whatever state a command answers, it is one that `CommandLeaves` lists. -/
theorem exec_leaves (h : exec i s = .next t) : CommandLeaves s i t := by
  cases i with
  | openChannel => exact execOpen_leaves h
  | register ch => exact execRegister_leaves h
  | unregister ch => exact execUnregister_leaves h
  | send ch => exact execSend_leaves h
  | receive ch => exact execReceive_leaves h
  | close ch => exact execClose_leaves h
  | parseHwaddr => exact execParseHwaddr_leaves h
  | isMulticast => exact execIsMulticast_leaves h

/-! What a host access leaves behind. -/

/-- `AccessLeaves s op t`: the HOST's access `op`, performed on `s`, can leave `t`. -/
inductive AccessLeaves (s : State) : HostOp → State → Prop
  | read {op : HostOp} (v : Word32) : AccessLeaves s op { s with readData := v }
  | argument {op : HostOp} (a b c : Word32) : AccessLeaves s op { s with arg0 := a, arg1 := b, arg2 := c }
  | opmWrite {op : HostOp} {k : Nat} (hk : k < s.params.opmBytes) (b : Byte) : AccessLeaves s op (s.memWrite k b)
  /-- A HOST_ACCESS fault, of a read (with the value it returns) or of a write (R54). -/
  | hostFault {op : HostOp} (a : HostAddr) (v : Word32) : AccessLeaves s op { s.hostAccessFault a with readData := v }
  /-- A CMD write that executes nothing: an illegal word, or any word in a faulted block (R74, R155). -/
  | rejected (w : Word32) : AccessLeaves s (.write32 0#17 w) ((s.loadCommand w).commandFault .illegalCommand)
  | command {w : Word32} {i : Instr} {t : State} (hdecode : decode w = .ok i)
      (hleaves : CommandLeaves (s.loadCommand w) i t) : AccessLeaves s (.write32 0#17 w) t
  | reset : AccessLeaves s .reset s.hardReset

/-- In a faulted block a command fault records nothing, so it leaves what the faulted answer of R155 leaves. -/
theorem commandFault_of_faulted (cause : FaultCause) (h : s.fault ≠ 0#32) :
    s.commandFault cause = s.respond .faulted := by
  simp [State.commandFault, State.raiseFault, h]

theorem issueCommand_leaves {w : Word32} (h : issueCommand w s = .next t) :
    t = (s.loadCommand w).commandFault .illegalCommand ∨
      ∃ i, decode w = .ok i ∧ CommandLeaves (s.loadCommand w) i t := by
  rcases issueCommand_cases w s with ⟨hf, he⟩ | ⟨_, _, _, he⟩ | ⟨_, i, hd, he⟩ <;> rw [he] at h
  · cases h
    exact .inl (commandFault_of_faulted .illegalCommand (s := s.loadCommand w) hf).symm
  · cases h
    exact .inl rfl
  · exact .inr ⟨i, hd, exec_leaves h⟩

theorem hostWrite32_leaves {a : HostAddr} {v : Word32} (h : hostWrite32 a v s = .next t) :
    AccessLeaves s (.write32 a v) t := by
  rcases hostWrite32_cases a v s with ⟨ha, he⟩ | ⟨_, he⟩ | ⟨_, he⟩ | ⟨_, he⟩ | ⟨_, he⟩ <;> rw [he] at h
  · obtain rfl : a = 0#17 := BitVec.eq_of_toNat_eq ha
    rcases issueCommand_leaves h with rfl | ⟨i, hdecode, hleaves⟩
    · exact .rejected v
    · exact .command hdecode hleaves
  · cases h
    exact .argument v s.arg1 s.arg2
  · cases h
    exact .argument s.arg0 v s.arg2
  · cases h
    exact .argument s.arg0 s.arg1 v
  · cases h
    exact .hostFault a (s.hostAccessFault a).readData

theorem hostRead32_leaves (a : HostAddr) : AccessLeaves s (.read32 a) (s.hostRead32 a) := by
  rcases s.hostRead32_cases a with ⟨v, _, _, he⟩ | ⟨_, he⟩ <;> rw [he]
  · exact .read v
  · exact .hostFault a 0#32

theorem hostRead8_leaves (a : HostAddr) : AccessLeaves s (.read8 a) (s.hostRead8 a) := by
  rcases s.hostRead8_cases a with ⟨k, _, he⟩ | ⟨_, he⟩ <;> rw [he]
  · exact .read _
  · exact .hostFault a 0#32

theorem hostWrite8_leaves (a : HostAddr) (b : Byte) : AccessLeaves s (.write8 a b) (s.hostWrite8 a b) := by
  rcases s.hostWrite8_cases a b with ⟨k, hk, he⟩ | ⟨_, he⟩ <;> rw [he]
  · exact .opmWrite ((s.opmOffset_eq_some_iff a k).mp hk).2 b
  · exact .hostFault a (s.hostAccessFault a).readData

theorem perform_leaves (h : perform op s = .next t) : AccessLeaves s op t := by
  cases op with
  | read32 a => cases h; exact hostRead32_leaves a
  | write32 a v => exact hostWrite32_leaves h
  | read8 a => cases h; exact hostRead8_leaves a
  | write8 a b => cases h; exact hostWrite8_leaves a b
  | reset => cases h; exact .reset

theorem step_of_inputs {rest : List HostOp} (h : s.inputs = op :: rest) :
    step s = perform op { s with inputs := rest } := by
  simp [step, h]

/-- A step waits, or performs the head of the HOST's list. -/
theorem step_leaves (h : step s = .next t) :
    t = s ∨ ∃ op rest, s.inputs = op :: rest ∧ AccessLeaves { s with inputs := rest } op t := by
  cases hin : s.inputs with
  | nil =>
    simp only [step, hin] at h
    cases h
    exact .inl rfl
  | cons op rest =>
    rw [step_of_inputs hin] at h
    exact .inr ⟨op, rest, rfl, perform_leaves h⟩


/-! The invariant, operation by operation. -/

theorem Status.code_mem (st : Status) : st.code ∈
    [0x00#32, 0x01#32, 0x02#32, 0x03#32, 0x04#32, 0x05#32, 0x06#32, 0x07#32, 0xFE#32, 0xFF#32] := by
  cases st <;> decide

/-- A zero-extended value keeps the read-as-zero bits at 0. -/
theorem toNat_setWidth_lt {w : Nat} (x : BitVec w) (h : w ≤ 32) : (x.setWidth 32).toNat < 2 ^ w := by
  rw [BitVec.toNat_setWidth_of_le h]
  exact x.isLt

theorem resp_good (h : s.Inv) : s.resp.Good := by
  obtain ⟨_, _, _, _, _, hresp, _⟩ := h
  exact hresp

theorem inv_withResp (h : s.Inv) {r : Resp} (hr : r.Good) : ({ s with resp := r } : State).Inv := by
  obtain ⟨hlegal, hsized, hgood, hopm, hframe, _, hfault⟩ := h
  exact ⟨hlegal, hsized, hgood, hopm, hframe, hr, hfault⟩

theorem inv_respond (h : s.Inv) (st : Status) : (s.respond st).Inv := by
  obtain ⟨_, hch, hmac, hflags, hlen⟩ := resp_good h
  exact inv_withResp h ⟨Status.code_mem st, hch, hmac, hflags, hlen⟩

theorem inv_setRespCh (h : s.Inv) (n : Nat) : (s.setRespCh n).Inv := by
  obtain ⟨hstatus, _, hmac, hflags, hlen⟩ := resp_good h
  exact inv_withResp h ⟨hstatus, toNat_setWidth_lt _ (by decide), hmac, hflags, hlen⟩

theorem inv_setRespMac (h : s.Inv) (m : Mac48) : (s.setRespMac m).Inv := by
  obtain ⟨hstatus, hch, _, hflags, hlen⟩ := resp_good h
  exact inv_withResp h ⟨hstatus, hch, toNat_setWidth_lt _ (by decide), hflags, hlen⟩

theorem inv_setRespFlags (h : s.Inv) {w : Word32} (hw : w ∈ [0x0#32, 0x2#32, 0x5#32, 0x8#32]) :
    (s.setRespFlags w).Inv := by
  obtain ⟨hstatus, hch, hmac, _, hlen⟩ := resp_good h
  exact inv_withResp h ⟨hstatus, hch, hmac, hw, hlen⟩

theorem inv_setRespLen_zero (h : s.Inv) : (s.setRespLen 0#16).Inv := by
  obtain ⟨hstatus, hch, hmac, hflags, _⟩ := resp_good h
  exact inv_withResp h ⟨hstatus, hch, hmac, hflags, rfl⟩

/-- The response prologue of a CMD write and the reset state hold one status and zeros (R33, R48). -/
theorem onlyStatus_good {st : Word32} (hst : st ∈
    [0x00#32, 0x01#32, 0x02#32, 0x03#32, 0x04#32, 0x05#32, 0x06#32, 0x07#32, 0xFE#32, 0xFF#32]) :
    (onlyStatus st).Good :=
  ⟨hst, Nat.two_pow_pos 8, Nat.two_pow_pos 16, List.mem_cons_self, rfl⟩

theorem inv_loadCommand (h : s.Inv) (w : Word32) : (s.loadCommand w).Inv := by
  obtain ⟨hstatus, _⟩ := resp_good h
  exact inv_withResp (s := { s with cmd := w }) h (onlyStatus_good hstatus)

theorem FaultCause.code_mem (cause : FaultCause) : cause.code ∈ [0x00#32, 0x01#32, 0x02#32, 0x03#32, 0x04#32] := by
  cases cause <;> decide

theorem FaultCause.code_ne_zero (cause : FaultCause) : cause.code ≠ 0#32 := by
  cases cause <;> decide

theorem inv_raiseFault (h : s.Inv) (cause : FaultCause) (info : Word32) : (s.raiseFault cause info).Inv := by
  rcases s.raiseFault_cases cause info with ⟨_, he⟩ | ⟨_, he⟩ <;> rw [he]
  · obtain ⟨hlegal, hsized, hgood, hopm, hframe, hresp, _⟩ := h
    exact ⟨hlegal, hsized, hgood, hopm, hframe, hresp, FaultCause.code_mem cause,
      fun h0 => absurd h0 (FaultCause.code_ne_zero cause)⟩
  · exact h

theorem inv_commandFault (h : s.Inv) (cause : FaultCause) : (s.commandFault cause).Inv :=
  inv_respond (inv_raiseFault h cause s.cmd) .faulted

theorem inv_setChannel (h : s.Inv) (n : Nat) {c : Channel} (hc : c.Good s.params.regTransition) :
    (s.setChannel n c).Inv := by
  obtain ⟨hlegal, hsized, hgood, hopm, hframe, hresp, hfault⟩ := h
  refine ⟨hlegal, (List.length_set ..).trans hsized, fun d hd => ?_, hopm, hframe, hresp, hfault⟩
  rcases List.mem_or_eq_of_mem_set hd with hd | rfl
  · exact hgood d hd
  · exact hc

theorem inv_afterRequests (h : s.Inv) {frame : Option FrameBuffer} (hframe : frame = s.frame ∨ frame = none)
    (history : List Event) (env : EnvAnswers) : (afterRequests frame history env s).Inv := by
  obtain ⟨hlegal, hsized, hgood, hopm, hnone, hresp, hfault⟩ := h
  exact ⟨hlegal, hsized, hgood, hopm, hframe.elim (·.trans hnone) id, hresp, hfault⟩

theorem inv_memWrite (h : s.Inv) {k : Nat} (hk : k < s.params.opmBytes) (b : Byte) : (s.memWrite k b).Inv := by
  obtain ⟨hlegal, hsized, hgood, ⟨hwf, hbound⟩, hframe, hresp, hfault⟩ := h
  refine ⟨hlegal, hsized, hgood, ⟨Memory.write_wf s.opm k b hwf, fun cell hcell => ?_⟩, hframe, hresp, hfault⟩
  rcases Memory.mem_write hcell with rfl | hcell
  · exact hk
  · exact hbound cell hcell

theorem free_good (mode : RegTransitionMode) : Channel.free.Good mode := by
  simp [Channel.Good, Channel.free]

/-- The reset state of a block built with legal parameters meets the invariant (R48). -/
theorem inv_resetWith {p : Params} (hp : p.Legal) : (State.resetWith p).Inv := by
  refine ⟨hp, List.length_replicate, fun c hc => ?_, ⟨rfl, nofun⟩, rfl, onlyStatus_good (by decide),
    List.mem_cons_self, fun _ => rfl⟩
  obtain rfl : c = Channel.free := List.eq_of_mem_replicate hc
  exact free_good _

theorem inv_hardReset (h : s.Inv) : s.hardReset.Inv := by
  obtain ⟨hlegal, _⟩ := h
  exact inv_resetWith hlegal

/-! The channel records a command writes are good. -/

theorem openedChannel_good (mode : RegTransitionMode) (u : UrlParts) (f : IfaceInfo) (tmac : Mac48) :
    (openedChannel u f tmac).Good mode := by
  cases mode <;> simp [Channel.Good, openedChannel, openStates]

theorem chan_good (h : s.Inv) (n : Nat) : (s.chan n).Good s.params.regTransition := by
  obtain ⟨_, _, hgood, _⟩ := h
  by_cases hn : n < s.channels.length
  · rw [s.chan_of_lt hn]
    exact hgood _ (List.getElem_mem hn)
  · rw [State.chan, List.getD_eq_default _ _ (not_lt.mp hn)]
    exact free_good _

/-- In MIRROR mode an open channel is in PUBLISHER or PUBLISHER_SUBSCRIBER, and a transition leads from one to the
other: READY and SUBSCRIBER are legal states of the commands, but no good channel is in them (R47). -/
theorem moved_good {c : Channel} {st : ChState} (hc : c.Good .mirror) (hvalid : c.valid = true)
    (hmove : MovesState i c.state st) : Channel.Good .mirror { c with state := st } := by
  simp only [Channel.Good, hvalid, if_true] at hc ⊢
  cases hmove with
  | register h =>
    have hst : c.state = .publisher := by
      revert hc h
      cases c.state <;> decide
    rw [hst]
    decide
  | unregister h =>
    have hst : c.state = .publisherSubscriber := by
      revert hc h
      cases c.state <;> decide
    rw [hst]
    decide

theorem classFlags_mem (c : AddrClass) : classFlags c ∈ [0x0#32, 0x2#32, 0x5#32, 0x8#32] := by
  cases c <;> decide

/-- Every command keeps the invariant. -/
theorem CommandLeaves.inv (hl : CommandLeaves s i t) (h : s.Inv) : t.Inv := by
  cases hl with
  | fault cause => exact inv_commandFault h cause
  | failed _ _ history env => exact inv_respond (inv_afterRequests h (.inl rfl) history env) _
  | answered _ _ hframe history env => exact inv_respond (inv_afterRequests (inv_setRespCh h _) hframe history env) _
  | opened _ u f tmac history env =>
    have hreq := inv_afterRequests h (.inl rfl) history env
    exact inv_respond (inv_setRespCh (inv_setChannel hreq _ (openedChannel_good _ u f tmac)) _) .ok
  | @moved i st _ hopen hmode hmove history env =>
    obtain ⟨_, hvalid⟩ := (s.slotOpen_iff _).mp hopen
    have hgood := moved_good (hmode ▸ chan_good h _) hvalid hmove
    have hreq := inv_afterRequests (inv_setRespCh h i.chField.toNat) (.inl rfl) history env
    exact inv_respond (inv_setChannel hreq _ (hmode ▸ hgood)) .ok
  | closed _ => exact inv_respond (inv_setChannel (inv_setRespCh h _) _ (free_good _)) .ok
  | parsed m => exact inv_respond (inv_setRespMac h m) .ok
  | classified c => exact inv_respond (inv_setRespFlags h (classFlags_mem c)) .ok
  | received => exact inv_respond (inv_setRespFlags (inv_setRespLen_zero (inv_setRespCh h _)) (by decide)) .ok

/-- Every host access and the reset input keep the invariant. -/
theorem AccessLeaves.inv (hl : AccessLeaves s op t) (h : s.Inv) : t.Inv := by
  cases hl with
  | read v => exact h
  | argument a b c => exact h
  | opmWrite hk b => exact inv_memWrite h hk b
  | hostFault a v => exact inv_raiseFault h .hostAccess _
  | rejected w => exact inv_commandFault (inv_loadCommand h w) .illegalCommand
  | command _ hleaves => exact hleaves.inv (inv_loadCommand h _)
  | reset => exact inv_hardReset h

/-- Settles O21: each operation a step is made of keeps the invariant, and `step_leaves` lists the steps. -/
theorem stepKeepsInvariant : Obligations.StepKeepsInvariant := by
  unfold Obligations.StepKeepsInvariant
  intro s t h hstep
  rcases step_leaves hstep with rfl | ⟨op, rest, _, hl⟩
  · exact h
  · exact hl.inv h

/-- Settles O20: the default parameters are legal ones. -/
theorem invariantHoldsAtReset : Obligations.InvariantHoldsAtReset :=
  ⟨inv_resetWith (by decide), fun _ hp => inv_resetWith hp⟩

/-! The first fault is kept. -/

/-- FAULT and FAULT_INFO from `s` to `t`: a recorded fault stays, and FAULT_INFO moves only with FAULT (R154, R160). -/
def KeepsFirstFault (s t : State) : Prop :=
  (s.fault ≠ 0#32 → t.fault = s.fault ∧ t.faultInfo = s.faultInfo) ∧ (t.fault = 0#32 → t.faultInfo = s.faultInfo)

theorem keepsFirstFault_of_eq (hfault : t.fault = s.fault) (hinfo : t.faultInfo = s.faultInfo) : KeepsFirstFault s t :=
  ⟨fun _ => ⟨hfault, hinfo⟩, fun _ => hinfo⟩

theorem raiseFault_keepsFirstFault (s : State) (cause : FaultCause) (info : Word32) :
    KeepsFirstFault s (s.raiseFault cause info) := by
  rcases s.raiseFault_cases cause info with ⟨h0, he⟩ | ⟨_, he⟩ <;> rw [he]
  · exact ⟨fun h => absurd h0 h, fun h => absurd h (FaultCause.code_ne_zero cause)⟩
  · exact keepsFirstFault_of_eq rfl rfl

theorem CommandLeaves.keepsFirstFault (hl : CommandLeaves s i t) : KeepsFirstFault s t := by
  cases hl with
  | fault cause => exact raiseFault_keepsFirstFault s cause s.cmd
  | failed | answered | opened | moved | closed | parsed | classified | received =>
    exact keepsFirstFault_of_eq rfl rfl

theorem AccessLeaves.keepsFirstFault (hl : AccessLeaves s op t) (hop : op ≠ .reset) : KeepsFirstFault s t := by
  cases hl with
  | read | argument | opmWrite => exact keepsFirstFault_of_eq rfl rfl
  | hostFault a v => exact raiseFault_keepsFirstFault s .hostAccess _
  | rejected w => exact raiseFault_keepsFirstFault (s.loadCommand w) .illegalCommand w
  | command _ hleaves => exact hleaves.keepsFirstFault
  | reset => exact absurd rfl hop

/-- Settles O9: faults are recorded by `raiseFault` alone. -/
theorem firstFaultIsKept : Obligations.FirstFaultIsKept := by
  unfold Obligations.FirstFaultIsKept
  intro s t hstep hreset
  rcases step_leaves hstep with rfl | ⟨op, rest, hin, hl⟩
  · exact keepsFirstFault_of_eq rfl rfl
  · exact hl.keepsFirstFault (by rintro rfl; simp [hin] at hreset)

/-! The channel window. -/

theorem windowAddr_toNat {n k : Nat} (hn : n < 255) (hk : k < 8) :
    (windowAddr n k).toNat = 0x100 + 0x20 * n + 4 * k := by
  rw [windowAddr, BitVec.toNat_ofNat, Nat.mod_eq_of_lt (by omega)]

theorem chCtrlWord_eq (c : Channel) :
    chCtrlWord c = (if c.valid then 1#32 else 0#32) + 16#32 * stateCode c.state := by
  unfold chCtrlWord
  cases c.valid <;> cases c.state <;> decide

/-- The words of the window as the model reads them are those of R43's table. -/
theorem windowWords_getElem? {c : Channel} {k : Nat} {v : Word32} (h : (windowWords c)[k]? = some v) :
    k < 8 ∧ channelWord c k = v := by
  obtain ⟨hk, rfl⟩ := List.getElem?_eq_some_iff.mp h
  have hk8 : k < 8 := hk
  refine ⟨hk8, ?_⟩
  interval_cases k
  · exact chCtrlWord_eq c
  all_goals rfl

/-- From 0x100 on the map has channel windows alone. -/
theorem readRegister_of_ge {a : Nat} (h : 0x100 ≤ a) : s.readRegister a = s.windowWord a := by
  unfold State.readRegister
  split
  any_goals omega
  rfl

theorem readRegister_windowAddr {n k : Nat} (hp : s.params.Legal) (hn : n < s.params.numChannels) (hk : k < 8) :
    s.readRegister (windowAddr n k).toNat = some (channelWord (s.chan n) k) := by
  obtain ⟨_, hle, _⟩ := hp
  have hslot : (0x100 + 0x20 * n + 4 * k - 0x100) / 0x20 = n := by omega
  have hword : (0x100 + 0x20 * n + 4 * k - 0x100) % 0x20 / 4 = k := by omega
  rw [windowAddr_toNat (by omega) hk, readRegister_of_ge (by omega), State.windowWord, if_pos (by omega), hslot,
    hword]

/-- Settles O14: the address gives back slot and word, and it is none of the four registers that take a write. -/
theorem channelWindowReadsFields : Obligations.ChannelWindowReadsFields := by
  unfold Obligations.ChannelWindowReadsFields
  intro s n k v rest hp hn hv
  obtain ⟨_, hle, _⟩ := id hp
  obtain ⟨hk, rfl⟩ := windowWords_getElem? hv
  have haddr : (windowAddr n k).toNat = 0x100 + 0x20 * n + 4 * k := windowAddr_toNat (by omega) hk
  refine ⟨fun hin => ?_, fun x hin => ?_⟩
  · have hread := readRegister_windowAddr (s := { s with inputs := rest }) hp hn hk
    rw [step_of_inputs hin, perform, State.hostRead32, if_pos (by omega), hread]
    rfl
  · rw [step_of_inputs hin, perform]
    rcases hostWrite32_cases (windowAddr n k) x { s with inputs := rest } with
      ⟨ha, _⟩ | ⟨ha, _⟩ | ⟨ha, _⟩ | ⟨ha, _⟩ | ⟨_, he⟩
    any_goals omega
    rw [he, State.hostAccessFault_eq]
    rfl

/-! The configuration of a channel. -/

theorem chan_commandFault (s : State) (cause : FaultCause) (n : Nat) : (s.commandFault cause).chan n = s.chan n :=
  State.chan_congr (by rw [State.commandFault_eq]) n

theorem chan_hostAccessFault (s : State) (a : HostAddr) (n : Nat) : (s.hostAccessFault a).chan n = s.chan n :=
  State.chan_congr (by rw [State.hostAccessFault_eq]) n

/-- A command changes a slot's configuration only as the OPEN that takes the slot or the CLOSE that frees it (R44). -/
theorem CommandLeaves.configuration_cases (hl : CommandLeaves s i t) (n : Nat) :
    configuration (t.chan n) = configuration (s.chan n) ∨
      (i = .openChannel ∧ (s.chan n).valid = false ∧ (t.chan n).valid = true) ∨
      ∃ ch, i = .close ch ∧ n = ch.toNat ∧ (s.chan n).valid = true ∧ (t.chan n).valid = false := by
  cases hl with
  | fault cause => exact .inl (congrArg configuration (chan_commandFault s cause n))
  | failed | answered | parsed | classified | received => exact .inl rfl
  | @opened slot hfree u f tmac history env =>
    obtain ⟨_, hslot, _⟩ := (s.freeSlot_eq_some_iff slot).mp hfree
    rcases s.chan_setChannel_cases slot n (openedChannel u f tmac) with he | ⟨rfl, _, he⟩
    · exact .inl (congrArg configuration he)
    · exact .inr (.inl ⟨rfl, hslot, congrArg Channel.valid he⟩)
  | @moved i st _ hopen hmode hmove history env =>
    rcases s.chan_setChannel_cases i.chField.toNat n { s.chan i.chField.toNat with state := st } with
      he | ⟨rfl, _, he⟩
    · exact .inl (congrArg configuration he)
    · exact .inl ((congrArg configuration he).trans rfl)
  | @closed ch hopen =>
    obtain ⟨_, hvalid⟩ := (s.slotOpen_iff ch).mp hopen
    rcases s.chan_setChannel_cases ch.toNat n Channel.free with he | ⟨rfl, _, he⟩
    · exact .inl (congrArg configuration he)
    · exact .inr (.inr ⟨ch, rfl, rfl, hvalid, congrArg Channel.valid he⟩)

/-- Settles O46: no access but a command and the reset input writes the table. -/
theorem configurationImmutableWhileOpen : Obligations.ConfigurationImmutableWhileOpen := by
  unfold Obligations.ConfigurationImmutableWhileOpen
  intro s t n hstep hne
  rcases step_leaves hstep with rfl | ⟨op, rest, hin, hl⟩
  · exact absurd rfl hne
  · cases hl with
    | read | argument | opmWrite => exact absurd rfl hne
    | hostFault a v => exact absurd (congrArg configuration (chan_hostAccessFault _ a n)) hne
    | rejected w => exact absurd (congrArg configuration (chan_commandFault _ _ n)) hne
    | @command w i _ hdecode hleaves =>
      refine .inr ⟨w, by rw [hin]; rfl, ?_⟩
      rcases hleaves.configuration_cases n with he | ⟨rfl, hfree, hvalid⟩ | ⟨ch, rfl, hn, hvalid, hfree⟩
      · exact absurd he hne
      · exact .inl ⟨hdecode, hfree, hvalid⟩
      · exact .inr ⟨ch, hdecode, hn, hvalid, hfree⟩
    | reset => exact .inl (by rw [hin]; rfl)

/-! What no command writes. -/

/-- A command writes the response registers, FAULT, FAULT_INFO, the channel table, and what ENV requests change. -/
theorem CommandLeaves.exists_eq (hl : CommandLeaves s i t) :
    ∃ resp fault faultInfo channels frame history env, t = { s with
      resp := resp, fault := fault, faultInfo := faultInfo, channels := channels, frame := frame, history := history,
      env := env } := by
  cases hl with
  | fault cause => exact ⟨_, _, _, s.channels, s.frame, s.history, s.env, s.commandFault_eq cause⟩
  | failed | answered | opened | moved | closed | parsed | classified | received => exact ⟨_, _, _, _, _, _, _, rfl⟩

/-- Settles O48: none of these fields is among those `CommandLeaves.exists_eq` lists. -/
theorem commandsLeaveHostSide : Obligations.CommandsLeaveHostSide := by
  unfold Obligations.CommandsLeaveHostSide
  intro i s t h
  obtain ⟨_, _, _, _, _, _, _, rfl⟩ := (exec_leaves h).exists_eq
  exact ⟨rfl, rfl, rfl, rfl, fun _ => rfl, rfl, rfl, rfl, rfl, rfl⟩

/-! The response registers a command does not write. -/

/-- R33 for a CMD write of a word that decodes to `d` and leaves the response registers `r`: the registers that this
command, ending with this status, does not write read 0. -/
def UnwrittenReadsZero (d : Except DecodeError Instr) (r : Resp) : Prop :=
  r.len = 0#32 ∧ (d ≠ .ok .parseHwaddr ∨ r.status ≠ 0x00#32 → r.macHi = 0#32 ∧ r.macLo = 0#32) ∧
    (d ≠ .ok .isMulticast ∧ (∀ ch, d ≠ .ok (.receive ch)) ∨ r.status ≠ 0x00#32 → r.flags = 0#32) ∧
    (r.status = 0xFF#32 ∨ d = .ok .parseHwaddr ∨ d = .ok .isMulticast ∨ (d = .ok .openChannel ∧ r.status ≠ 0x00#32) →
      r.ch = 0#32)

theorem unwrittenReadsZero_onlyStatus (d : Except DecodeError Instr) (st : Word32) :
    UnwrittenReadsZero d (onlyStatus st) :=
  ⟨rfl, fun _ => ⟨rfl, rfl⟩, fun _ => rfl, fun _ => rfl⟩

theorem Status.code_ne_faulted {st : Status} (h : st ≠ .faulted) : st.code ≠ 0xFF#32 := by
  revert h
  cases st <;> decide

/-- Besides RESP_STATUS, a channel command that does not fault writes RESP_CH, and RECEIVE its flags. -/
theorem unwrittenReadsZero_channel {r : Resp} (hi : i.isChannelCommand = true) (hst : r.status ≠ 0xFF#32)
    (hmac : r.macHi = 0#32 ∧ r.macLo = 0#32) (hlen : r.len = 0#32)
    (hflags : r.flags = 0#32 ∨ (∃ ch, i = .receive ch) ∧ r.status = 0x00#32) : UnwrittenReadsZero (.ok i) r := by
  refine ⟨hlen, fun _ => hmac, fun h => ?_, fun h => ?_⟩
  · rcases hflags with hflags | ⟨⟨ch, rfl⟩, hok⟩
    · exact hflags
    · exact absurd h (by simp [hok])
  · rcases h with h | h | h | ⟨h, _⟩
    · exact absurd h hst
    all_goals
      cases h
      cases hi

/-- The command fault's own RESP_STATUS write, in a state that has run the prologue. -/
theorem commandFault_loadCommand_resp (s : State) (w : Word32) (cause : FaultCause) :
    ((s.loadCommand w).commandFault cause).resp = onlyStatus 0xFF#32 := by
  rw [State.commandFault_eq]
  rfl

/-- A command that starts with the prologue's zeros leaves them in every response register it does not write. -/
theorem CommandLeaves.unwrittenReadsZero {w : Word32} (hl : CommandLeaves (s.loadCommand w) i t) :
    UnwrittenReadsZero (.ok i) t.resp := by
  cases hl with
  | fault cause => exact commandFault_loadCommand_resp s w cause ▸ unwrittenReadsZero_onlyStatus _ _
  | @failed _ st => exact unwrittenReadsZero_onlyStatus _ st.code
  | answered hi hst => exact unwrittenReadsZero_channel hi (Status.code_ne_faulted hst) ⟨rfl, rfl⟩ rfl (.inl rfl)
  | opened => exact ⟨rfl, fun _ => ⟨rfl, rfl⟩, fun _ => rfl, by simp [Status.code]⟩
  | moved hi => exact unwrittenReadsZero_channel hi (Status.code_ne_faulted (st := .ok) nofun) ⟨rfl, rfl⟩ rfl (.inl rfl)
  | closed => exact unwrittenReadsZero_channel rfl (Status.code_ne_faulted (st := .ok) nofun) ⟨rfl, rfl⟩ rfl (.inl rfl)
  | parsed m => exact ⟨rfl, by simp [Status.code], fun _ => rfl, fun _ => rfl⟩
  | classified c => exact ⟨rfl, fun _ => ⟨rfl, rfl⟩, by simp [Status.code], fun _ => rfl⟩
  | received =>
    exact unwrittenReadsZero_channel rfl (Status.code_ne_faulted (st := .ok) nofun) ⟨rfl, rfl⟩ rfl
      (.inr ⟨⟨_, rfl⟩, rfl⟩)

/-- Settles O50: a rejected word leaves the prologue's zeros, and a command leaves those it does not overwrite. -/
theorem unwrittenResponseReadsZero : Obligations.UnwrittenResponseReadsZero := by
  unfold Obligations.UnwrittenResponseReadsZero
  intro s t w rest hin hstep
  rw [step_of_inputs hin] at hstep
  rcases issueCommand_leaves hstep with rfl | ⟨i, hdecode, hleaves⟩
  · exact ⟨by rw [State.commandFault_eq]; rfl, commandFault_loadCommand_resp _ w _ ▸ unwrittenReadsZero_onlyStatus _ _⟩
  · obtain ⟨_, _, _, _, _, _, _, rfl⟩ := hleaves.exists_eq
    exact ⟨rfl, hdecode ▸ hleaves.unwrittenReadsZero⟩

/-! Command issue, argument writes, and the values after reset. -/

/-- Settles O5: of the cases of `issueCommand_cases`, a running block and a decodable word leave the last. -/
theorem stepRunsDecodedCommand : Obligations.StepRunsDecodedCommand := by
  unfold Obligations.StepRunsDecodedCommand
  intro s w rest i hin hfault hdecode
  rw [step_of_inputs hin]
  show issueCommand w { s with inputs := rest } = exec i (State.loadCommand w { s with inputs := rest })
  rcases issueCommand_cases w { s with inputs := rest } with ⟨hf, _⟩ | ⟨_, e, he, _⟩ | ⟨_, j, hj, he⟩
  · exact absurd hfault hf
  · cases hdecode.symm.trans he
  · obtain rfl : i = j := Except.ok.inj (hdecode.symm.trans hj)
    exact he

/-- Settles O16: the write evaluates at each of the three addresses. -/
theorem argumentWritesStore : Obligations.ArgumentWritesStore := by
  unfold Obligations.ArgumentWritesStore
  intro s v rest
  refine ⟨fun hin => ?_, fun hin => ?_, fun hin => ?_⟩ <;> rw [step_of_inputs hin] <;> rfl

/-- Settles O17: the step is `State.hardReset`. -/
theorem resetInputSetsRegisters : Obligations.ResetInputSetsRegisters := by
  unfold Obligations.ResetInputSetsRegisters
  intro s rest hin
  exact ⟨State.hardReset { s with inputs := rest }, step_of_inputs hin, rfl, rfl, rfl, rfl, rfl, rfl, rfl,
    List.length_replicate, fun _ hc => List.eq_of_mem_replicate hc, rfl⟩

/-- Settles O19: the fields of `State.resetWith`, at the default parameters. -/
theorem resetStateValues : Obligations.ResetStateValues :=
  ⟨rfl, rfl, rfl, rfl, rfl, rfl, rfl, List.length_replicate, fun _ hc => List.eq_of_mem_replicate hc, fun _ => rfl, rfl⟩

end Sys2Proof.Proofs.BlockState

namespace Sys2Proof.Proofs.MemoryMap
/-! The host's address map, the range of a descriptor and the frame buffer (spec/20_memory.md). A claim about a host
access is one case of the model's lemma on that access, once the address map has excluded the others; filling the
buffer is one list of writes, the tag and then the payload. -/

open Sys2Proof Sys2Proof.Machine Sys2Proof.Claims
open Sys2Proof.Proofs.BlockState (step_of_inputs)

variable {s : State} {a : HostAddr} {d : Word32} {rest : List HostOp}

/-! Descriptors out of range. -/

theorem inRange_eq_true_iff : s.inRange d = true ↔ InOpm s d := decide_eq_true_iff

/-- One descriptor out of range, wherever it stands in the list, makes the range check fail (R56, R74). -/
theorem requireRange_of_not_inOpm {ds : List Word32} {k : State → Out} (hfault : s.fault = 0#32) (hd : d ∈ ds)
    (hout : ¬ InOpm s d) : requireRange ds s k = .next { s with
      resp := { s.resp with status := 0xFF#32 }, fault := 0x02#32, faultInfo := s.cmd } := by
  have hall : ds.all s.inRange = false :=
    List.all_eq_false.mpr ⟨d, hd, fun h => hout (inRange_eq_true_iff.mp h)⟩
  rw [requireRange_of_not_inRange hall, State.commandFault_eq, if_pos hfault, if_pos hfault]
  rfl

theorem arg0_mem_openDescriptors (s : State) : s.arg0 ∈ s.openDescriptors := by
  unfold State.openDescriptors
  split <;> simp

theorem arg1_mem_openDescriptors (h : s.params.ifaceName = .config) : s.arg1 ∈ s.openDescriptors := by
  simp [State.openDescriptors, h]

/-- Settles O11: the range check is the first check of OPEN and PARSE_HWADDR, and follows the handle check in SEND. -/
theorem operandRangeFaults : Obligations.OperandRangeFaults := by
  unfold Obligations.OperandRangeFaults
  rintro i s hfault (⟨rfl, hout | ⟨hconfig, hout⟩⟩ | ⟨rfl, hout⟩ | ⟨ch, c, rfl, ⟨hlt, rfl, hvalid⟩, hout⟩)
  · exact requireRange_of_not_inOpm hfault (arg0_mem_openDescriptors s) hout
  · exact requireRange_of_not_inOpm hfault (arg1_mem_openDescriptors hconfig) hout
  · exact requireRange_of_not_inOpm hfault (List.mem_singleton.mpr rfl) hout
  · have hopen : s.slotOpen ch = true := (s.slotOpen_iff ch).mpr ⟨hlt, hvalid⟩
    rw [exec, execSend, requireOpen_of_open hopen]
    exact requireRange_of_not_inOpm hfault (List.mem_singleton.mpr rfl) hout

/-! Forbidden host accesses. -/

theorem hostAccessFault_eq_withHostAccess (s : State) (a : HostAddr) : s.hostAccessFault a = withHostAccess s a :=
  s.hostAccessFault_eq a

/-- No register is mapped at a reserved address or in OPM (R51). -/
theorem readRegister_eq_none {n : Nat} (hp : s.params.Legal) (h : Reserved s.params n ∨ 0x10000 ≤ n) :
    s.readRegister n = none := by
  obtain ⟨_, _, _⟩ := hp
  have habove : 0x38 ≤ n := by omega
  have hwindow : ¬ (0x100 ≤ n ∧ n < 0x100 + 0x20 * s.params.numChannels) := by omega
  unfold State.readRegister
  split
  case h_15 => rw [State.windowWord, if_neg hwindow]
  all_goals omega

theorem hostRead32_of_forbidden (hp : s.params.Legal) (h : ForbiddenRead32 s.params a.toNat) :
    s.hostRead32 a = { withHostAccess s a with readData := 0#32 } := by
  rcases s.hostRead32_cases a with ⟨v, haligned, hmapped, _⟩ | ⟨_, he⟩
  · have hunmapped := readRegister_eq_none hp (h.imp_right (·.resolve_right (not_not.mpr haligned)))
    cases hunmapped.symm.trans hmapped
  · rw [he, hostAccessFault_eq_withHostAccess]
    rfl

theorem hostWrite32_of_forbidden {v : Word32} (hp : s.params.Legal) (h : ForbiddenWrite32 s.params a.toNat) :
    hostWrite32 a v s = .next (withHostAccess s a) := by
  rcases hostWrite32_cases a v s with ⟨ha, _⟩ | ⟨ha, _⟩ | ⟨ha, _⟩ | ⟨ha, _⟩ | ⟨_, he⟩
  case inr.inr.inr.inr => rw [he, hostAccessFault_eq_withHostAccess]
  all_goals omega

/-- A forbidden byte address is no OPM byte. -/
theorem opmOffset_of_forbidden (h : ForbiddenByte s.params a.toNat) (i : Nat) : s.opmOffset a ≠ some i := by
  rw [Ne, State.opmOffset_eq_some_iff]
  omega

theorem hostRead8_of_forbidden (h : ForbiddenByte s.params a.toNat) :
    s.hostRead8 a = { withHostAccess s a with readData := 0#32 } := by
  rcases s.hostRead8_cases a with ⟨i, hi, _⟩ | ⟨_, he⟩
  · exact absurd hi (opmOffset_of_forbidden h i)
  · rw [he, hostAccessFault_eq_withHostAccess]
    rfl

theorem hostWrite8_of_forbidden {b : Byte} (h : ForbiddenByte s.params a.toNat) :
    s.hostWrite8 a b = withHostAccess s a := by
  rcases s.hostWrite8_cases a b with ⟨i, hi, _⟩ | ⟨_, he⟩
  · exact absurd hi (opmOffset_of_forbidden h i)
  · rw [he, hostAccessFault_eq_withHostAccess]

/-- Settles O12: one lemma an access kind. -/
theorem forbiddenAccessesFault : Obligations.ForbiddenAccessesFault := by
  unfold Obligations.ForbiddenAccessesFault
  intro s a rest hp
  refine ⟨fun hin h => ?_, fun hin h => ?_, fun v hin h => ?_, fun b hin h => ?_⟩ <;> rw [step_of_inputs hin]
  · exact congrArg _ (hostRead32_of_forbidden (s := { s with inputs := rest }) hp h)
  · exact congrArg _ (hostRead8_of_forbidden (s := { s with inputs := rest }) h)
  · exact hostWrite32_of_forbidden (s := { s with inputs := rest }) hp h
  · exact congrArg _ (hostWrite8_of_forbidden (s := { s with inputs := rest }) h)

/-! Byte accesses of OPM. -/

theorem hostRead8_of_opmOffset {i : Nat} (h : s.opmOffset a = some i) :
    s.hostRead8 a = { s with readData := (s.opmByte i).setWidth 32 } := by
  simp only [State.hostRead8, h]

theorem hostWrite8_of_opmOffset {i : Nat} (h : s.opmOffset a = some i) (b : Byte) :
    s.hostWrite8 a b = s.memWrite i b := by
  simp only [State.hostWrite8, h]

/-- Settles O15: the byte accesses are `memWrite` and `opmByte` at the address's offset; the 32-bit ones R54 forbids. -/
theorem opmByteAccesses : Obligations.OpmByteAccesses := by
  unfold Obligations.OpmByteAccesses
  intro s i a rest hp hi ha
  have hoff : State.opmOffset { s with inputs := rest } a = some i := (State.opmOffset_eq_some_iff _ a i).mpr ⟨ha, hi⟩
  have hread : ForbiddenRead32 s.params a.toNat := .inr (.inl (by omega))
  obtain ⟨hread32, _, hwrite32, _⟩ := forbiddenAccessesFault s a rest hp
  refine ⟨fun b hin => ⟨State.memWrite i b { s with inputs := rest }, ?_, State.opmByte_memWrite_same _ i b,
    fun j hj => State.opmByte_memWrite_other _ i j b hj, rfl⟩, fun hin => ?_, fun hin => hread32 hin hread,
    fun v hin => hwrite32 v hin (.inl hread)⟩ <;> rw [step_of_inputs hin]
  · exact congrArg _ (hostWrite8_of_opmOffset hoff b)
  · exact congrArg _ (hostRead8_of_opmOffset hoff)

/-! Reads of the mapped registers. -/

/-- Concatenation as arithmetic: the left part counts multiples of the right part's range. -/
theorem toNat_append_eq_add {v w : Nat} (x : BitVec v) (y : BitVec w) : (x ++ y).toNat = x.toNat * 2 ^ w + y.toNat := by
  rw [BitVec.toNat_append, ← Nat.shiftLeft_add_eq_or_of_lt y.isLt, Nat.shiftLeft_eq]

/-- The mode bits as CAPS weighs them (R32). -/
theorem capsNat_eq (p : Params) : capsNat p =
    p.numChannels + 2 ^ 8 * (ifaceNameBit p.ifaceName).toNat + 2 ^ 9 * (regTransitionBit p.regTransition).toNat
      + 2 ^ 10 * (groupDigitsBit p.groupDigits).toNat + 2 ^ 11 * (tagLayoutBit p.tagLayout).toNat := by
  obtain ⟨_, _, iface, regTransition, digits, layout⟩ := p
  cases iface <;> cases regTransition <;> cases digits <;> cases layout <;> rfl

/-- CAPS holds its fields side by side, so that its number is their weighted sum (R32). -/
theorem capsWord_eq {p : Params} (hp : p.Legal) : capsWord p = BitVec.ofNat 32 (capsNat p) := by
  obtain ⟨_, hle, _⟩ := hp
  apply BitVec.eq_of_toNat_eq
  rw [capsNat_eq]
  simp only [capsWord, toNat_append_eq_add, BitVec.toNat_ofNat]
  omega

theorem opmSizeWord_eq {p : Params} (hp : p.Legal) : opmSizeWord p = BitVec.ofNat 32 p.opmBytes := by
  obtain ⟨_, _, _, hle⟩ := hp
  apply BitVec.eq_of_toNat_eq
  simp only [opmSizeWord, toNat_append_eq_add, BitVec.toNat_ofNat]
  omega

/-- The table of R51 is the model's map. -/
theorem readRegister_of_mem_registerMap {v : Word32} (hp : s.params.Legal) (h : (a, v) ∈ registerMap s) :
    a.toNat % 4 = 0 ∧ s.readRegister a.toNat = some v := by
  rw [registerMap, ← capsWord_eq hp, ← opmSizeWord_eq hp] at h
  simp only [List.mem_cons, Prod.mk.injEq, List.not_mem_nil, or_false] at h
  rcases h with ⟨rfl, rfl⟩ | ⟨rfl, rfl⟩ | ⟨rfl, rfl⟩ | ⟨rfl, rfl⟩ | ⟨rfl, rfl⟩ | ⟨rfl, rfl⟩ | ⟨rfl, rfl⟩ |
    ⟨rfl, rfl⟩ | ⟨rfl, rfl⟩ | ⟨rfl, rfl⟩ | ⟨rfl, rfl⟩ | ⟨rfl, rfl⟩ | ⟨rfl, rfl⟩ | ⟨rfl, rfl⟩ <;> exact ⟨rfl, rfl⟩

/-- Settles O13: a mapped register is aligned, so the read is the first case of `State.hostRead32_cases`. -/
theorem registerReadsReturnValues : Obligations.RegisterReadsReturnValues := by
  unfold Obligations.RegisterReadsReturnValues
  intro s a v rest hp hmem hin
  obtain ⟨haligned, hv⟩ := readRegister_of_mem_registerMap (s := { s with inputs := rest }) hp hmem
  rw [step_of_inputs hin]
  rcases State.hostRead32_cases { s with inputs := rest } a with ⟨u, _, hu, he⟩ | ⟨hnone, _⟩
  · obtain rfl : v = u := Option.some.inj (hv.symm.trans hu)
    exact congrArg _ he
  · simp [haligned, hv] at hnone

/-! The frame buffer. -/

/-- Two lists written at adjoining offsets are one list written. -/
theorem fMemWriteList_append (s : State) (off : Nat) (xs ys : List Byte) :
    (s.fMemWriteList off xs).fMemWriteList (off + xs.length) ys = s.fMemWriteList off (xs ++ ys) := by
  induction xs generalizing s off with
  | nil => rfl
  | cons x xs ih =>
    rw [List.length_cons, ← Nat.succ_add_eq_add_succ]
    exact ih (s.fMemWrite off x) (off + 1)

/-- A list written at `pre.length` over as many bytes, the buffer's last ones, takes their place. -/
theorem fMemWriteList_overwrites {fb : Word32} {pre old bs : List Byte} (hlen : old.length = bs.length)
    (hframe : s.frame = some { handle := fb, bytes := pre ++ old }) :
    s.fMemWriteList pre.length bs = { s with frame := some { handle := fb, bytes := pre ++ bs } } := by
  induction bs generalizing s pre old with
  | nil =>
    obtain rfl : old = [] := List.length_eq_zero_iff.mp hlen
    rw [← hframe]
    rfl
  | cons b bs ih =>
    obtain ⟨o, old, rfl⟩ := List.exists_cons_of_length_eq_add_one hlen
    have hset : (s.fMemWrite pre.length b).frame = some { handle := fb, bytes := (pre ++ [b]) ++ old } := by
      simp [hframe]
    have hrest := ih (Nat.succ.inj hlen) hset
    rw [List.length_append, List.append_assoc] at hrest
    exact hrest

/-- The TCI as a number (R121). -/
theorem tci_toNat (c : Channel) : c.tci.toNat = tciNat c := by
  have hprio : c.prio.toNat % 2 ^ 16 = c.prio.toNat := Nat.mod_eq_of_lt (by omega)
  have hvid : c.vid.toNat % 2 ^ 16 = c.vid.toNat := Nat.mod_eq_of_lt c.vid.isLt
  simp only [Channel.tci, tciNat, Config.prioShift, BitVec.toNat_or, BitVec.toNat_shiftLeft, BitVec.toNat_setWidth,
    Nat.or_mod_two_pow, hprio, hvid]

/-- Network byte order, with both bytes as numbers (R59). -/
theorem networkBytes_eq (v : BitVec 16) :
    networkBytes v = [BitVec.ofNat 8 (v.toNat / 256), BitVec.ofNat 8 v.toNat] := by
  have hhi : v.extractLsb' 8 8 = BitVec.ofNat 8 (v.toNat / 256) := by
    apply BitVec.eq_of_toNat_eq
    simp [Nat.shiftRight_eq_div_pow]
  have hlo : v.extractLsb' 0 8 = BitVec.ofNat 8 v.toNat := by
    apply BitVec.eq_of_toNat_eq
    simp
  rw [networkBytes, hhi, hlo]

theorem tagOf_of_vid_eq_zero {c : Channel} (h : c.vid = 0#16) (layout : TagLayout) : tagOf layout c = [] := if_pos h

theorem tagOf_of_vid_ne_zero {c : Channel} (h : c.vid ≠ 0#16) (layout : TagLayout) :
    tagOf layout c = tagBytes layout c.tci := by
  rw [tagOf, if_neg h, ← tci_toNat]
  cases layout <;> simp only [tagBytes, networkBytes_eq] <;> rfl

theorem writeTag_eq (s : State) (c : Channel) : s.writeTag c = s.fMemWriteList 0 (tagOf s.params.tagLayout c) := by
  by_cases h : c.vid = 0#16
  · simp [State.writeTag, Channel.tagged, h, tagOf_of_vid_eq_zero, State.fMemWriteList]
  · simp [State.writeTag, Channel.tagged, h, tagOf_of_vid_ne_zero]

/-- The payload starts where the tag ends (R120). -/
theorem payloadBase_eq (c : Channel) (layout : TagLayout) : c.payloadBase = (tagOf layout c).length := by
  by_cases h : c.vid = 0#16
  · simp [Channel.payloadBase, Channel.tagged, h, tagOf_of_vid_eq_zero]
  · rw [tagOf_of_vid_ne_zero h]
    cases layout <;> simp [Channel.payloadBase, Channel.tagged, h, tagBytes, networkBytes, Config.vlanTagBytes]

/-- Filling the buffer is one run of writes from offset 0: the tag, then the payload. -/
theorem buildFrame_eq_fMemWriteList (s : State) (c : Channel) (payload : List Byte) :
    s.buildFrame c payload = s.fMemWriteList 0 (tagOf s.params.tagLayout c ++ payload) := by
  rw [State.buildFrame, writeTag_eq, payloadBase_eq c s.params.tagLayout, ← fMemWriteList_append, Nat.zero_add]

/-- Settles O41: the run of writes from offset 0 is as long as the buffer. -/
theorem frameBufferIsWrittenWhole : Obligations.FrameBufferIsWrittenWhole := by
  unfold Obligations.FrameBufferIsWrittenWhole
  intro s c payload f hframe hsize
  have hlen : f.bytes.length = (tagOf s.params.tagLayout c ++ payload).length := by
    rw [hsize, Channel.frameSize, payloadBase_eq c s.params.tagLayout, List.length_append, Nat.add_comm]
  rw [buildFrame_eq_fMemWriteList]
  exact fMemWriteList_overwrites (pre := []) hlen hframe

end Sys2Proof.Proofs.MemoryMap

namespace Sys2Proof.Proofs.Encoding
/-! The command word and the operand registers (spec/30_encoding.md). A word is read through its four fields only:
`decode_eq_ok_iff` and `eq_encode_iff` say so, and the claims about legal and illegal words follow. -/

open Sys2Proof Sys2Proof.Machine Sys2Proof.Claims
open Sys2Proof.Proofs.BlockState (step_of_inputs)
open Sys2Proof.Proofs.MemoryMap (toNat_append_eq_add)

variable {s : State} {w : Word32} {i : Instr}

/-! Decode and encode, field by field. -/

/-- A word is its four fields side by side (R70). -/
theorem eq_append_fields (w : Word32) : w = fieldRsv1 w ++ fieldCh w ++ fieldRsv0 w ++ fieldOp w := by
  apply BitVec.eq_of_toNat_eq
  simp only [toNat_append_eq_add, fieldRsv1, fieldCh, fieldRsv0, fieldOp, BitVec.extractLsb'_toNat,
    Nat.shiftRight_eq_div_pow]
  omega

theorem eq_encode_iff : w = encode i ↔
    (fieldRsv0 w = 0#4 ∧ fieldRsv1 w = 0#16) ∧ fieldOp w = i.opcode ∧ fieldCh w = i.chField := by
  constructor
  · rintro rfl
    obtain ⟨hop, hrsv0, hch, hrsv1⟩ := Laws.EncodeFields.of_parts i.opcode i.chField
    exact ⟨⟨hrsv0, hrsv1⟩, hop, hch⟩
  · rintro ⟨⟨hrsv0, hrsv1⟩, hop, hch⟩
    rw [eq_append_fields w, hrsv1, hch, hrsv0, hop]
    rfl

theorem globalCommand_eq_ok_iff {j : Instr} {ch : BitVec 8} : globalCommand j ch = .ok i ↔ j = i ∧ ch = 0#8 := by
  unfold globalCommand
  split <;> simp [*]

/-- The opcode map finds a command exactly at its OP and CH (R71, R72, R81). -/
theorem decodeOp_eq_ok_iff {op : BitVec 4} {ch : BitVec 8} :
    decodeOp op ch = .ok i ↔ op = i.opcode ∧ ch = i.chField := by
  constructor
  · intro h
    unfold decodeOp at h
    split at h
    case h_9 => cases h
    case h_1 hop | h_7 hop | h_8 hop =>
      obtain ⟨rfl, hch⟩ := globalCommand_eq_ok_iff.mp h
      exact ⟨BitVec.eq_of_toNat_eq hop, hch⟩
    all_goals
      next hop =>
        cases h
        exact ⟨BitVec.eq_of_toNat_eq hop, rfl⟩
  · rintro ⟨rfl, rfl⟩
    cases i <;> rfl

theorem decode_eq_ok_iff : decode w = .ok i ↔
    (fieldRsv0 w = 0#4 ∧ fieldRsv1 w = 0#16) ∧ fieldOp w = i.opcode ∧ fieldCh w = i.chField := by
  rw [← decodeOp_eq_ok_iff]
  unfold decode
  split
  · next hrsv =>
    have hnonzero : ¬ (fieldRsv0 w = 0#4 ∧ fieldRsv1 w = 0#16) := not_and_or.mpr hrsv
    simp [hnonzero]
  · next hrsv =>
    have hzero : fieldRsv0 w = 0#4 ∧ fieldRsv1 w = 0#16 := by simpa using hrsv
    simp [hzero]

/-- Settles O1: both sides say the same of the word's four fields. -/
theorem decodeExactlyTheEncodings : Obligations.DecodeExactlyTheEncodings := by
  unfold Obligations.DecodeExactlyTheEncodings
  exact fun _ _ => decode_eq_ok_iff.trans eq_encode_iff.symm

/-- Settles O2: each legal word is its command's encoding; the illegal ones are refused by the check they fail. -/
theorem specWordsDecode : Obligations.SpecWordsDecode := by
  unfold Obligations.SpecWordsDecode
  simp only [decodeExactlyTheEncodings _ _]
  exact ⟨rfl, rfl, rfl, rfl, rfl, rfl, rfl, rfl, rfl, rfl, rfl, rfl⟩

/-! Illegal words. -/

/-- A word that is no command is an ILLEGAL_COMMAND fault of the block that is given it (R74, R153, R154). -/
theorem step_of_not_command {rest : List HostOp} (hin : s.inputs = .write32 0#17 w :: rest) (hfault : s.fault = 0#32)
    (hw : ∀ i, decode w ≠ .ok i) : step s = .next { s with
      inputs := rest, cmd := w, resp := onlyStatus 0xFF#32, fault := 0x01#32, faultInfo := w } := by
  rw [step_of_inputs hin]
  show issueCommand w { s with inputs := rest } = _
  rcases issueCommand_cases w { s with inputs := rest } with ⟨hf, _⟩ | ⟨_, _, _, he⟩ | ⟨_, i, hi, _⟩
  · exact absurd hfault hf
  · rw [he, State.commandFault_eq, State.loadCommand_fault, if_pos hfault, if_pos hfault]
    rfl
  · exact absurd hi (hw i)

/-- Settles O7: a command's word has zeros in both reserved fields. -/
theorem reservedBitsAreIllegal : Obligations.ReservedBitsAreIllegal := by
  unfold Obligations.ReservedBitsAreIllegal
  intro s w rest hin hfault hrsv
  refine step_of_not_command hin hfault fun i hi => ?_
  obtain ⟨hzero, _, _⟩ := decode_eq_ok_iff.mp hi
  exact not_and_or.mpr hrsv hzero

/-- The reserved OP values are no command's (R81). -/
theorem opcode_not_reserved (i : Instr) :
    i.opcode ∉ [0x0#4, 0x7#4, 0xA#4, 0xB#4, 0xC#4, 0xD#4, 0xE#4, 0xF#4] := by
  cases i <;> simp [Instr.opcode]

/-- OPEN, PARSE_HWADDR and IS_MULTICAST carry CH = 0 (R72). -/
theorem chField_of_global_opcode (h : i.opcode ∈ [0x1#4, 0x8#4, 0x9#4]) : i.chField = 0#8 := by
  cases i with
  | openChannel | parseHwaddr | isMulticast => rfl
  | register | unregister | send | receive | close => simp [Instr.opcode] at h

/-- Settles O8: a command's OP is not reserved, and its CH is 0 when its OP is a global command's. -/
theorem illegalOpcodesFault : Obligations.IllegalOpcodesFault := by
  unfold Obligations.IllegalOpcodesFault
  intro s w rest hin hfault hillegal
  refine step_of_not_command hin hfault fun i hi => ?_
  obtain ⟨_, hop, hch⟩ := decode_eq_ok_iff.mp hi
  change fieldOp w ∈ _ ∨ fieldOp w ∈ _ ∧ fieldCh w ≠ _ at hillegal
  rw [hop, hch] at hillegal
  rcases hillegal with hreserved | ⟨hglobal, hne⟩
  · exact opcode_not_reserved i hreserved
  · exact hne (chField_of_global_opcode hglobal)

/-! The handle check. -/

/-- The handle check is the first thing a channel command does (R74). -/
theorem exec_of_not_open (hi : i.isChannelCommand = true) (hclosed : s.slotOpen i.chField = false) :
    exec i s = .next (s.commandFault .danglingHandle) := by
  cases i with
  | register ch => rw [exec, execRegister, requireOpen_of_not_open (ch := ch) hclosed]
  | unregister ch => rw [exec, execUnregister, requireOpen_of_not_open (ch := ch) hclosed]
  | send ch => rw [exec, execSend, requireOpen_of_not_open (ch := ch) hclosed]
  | receive ch => rw [exec, execReceive, requireOpen_of_not_open (ch := ch) hclosed]
  | close ch => rw [exec, execClose, requireOpen_of_not_open (ch := ch) hclosed]
  | openChannel | parseHwaddr | isMulticast => cases hi

/-- Settles O10: the slot is not open, so the command ends at its handle check. -/
theorem danglingHandleFaults : Obligations.DanglingHandleFaults := by
  unfold Obligations.DanglingHandleFaults
  intro i s hi hfault hslot
  have hclosed : s.slotOpen i.chField = false := by
    rw [Bool.eq_false_iff, Ne, State.slotOpen_iff]
    rintro ⟨hlt, hvalid⟩
    rcases hslot with hge | hfree
    · exact absurd hlt (not_lt.mpr hge)
    · exact Bool.false_ne_true (hfree.symm.trans hvalid)
  rw [exec_of_not_open hi hclosed, State.commandFault_eq, if_pos hfault, if_pos hfault]
  rfl

/-! Fields put side by side by shifting. -/

/-- A `cmd` line's word is `(CH << 8) | OP` (R70, R82). -/
theorem encode_eq_shift_or (i : Instr) : encode i = i.chField.setWidth 32 <<< 8 ||| i.opcode.setWidth 32 := by
  rw [← BitVec.setWidth_eq (encode i), encode,
    BitVec.setWidth_append_append_append_eq_shiftLeft_setWidth_or]
  simp

theorem cmd_ops (i : Instr) :
    (HostLine.cmd i).ops = [.write32 0#17 (i.chField.setWidth 32 <<< 8 ||| i.opcode.setWidth 32)] :=
  congrArg (fun w => [HostOp.write32 0#17 w]) (encode_eq_shift_or i)

/-- Settles O3: `cmd_ops` at each mnemonic. -/
theorem commandLinesWriteTheirWords : Obligations.CommandLinesWriteTheirWords := by
  unfold Obligations.CommandLinesWriteTheirWords
  exact ⟨cmd_ops .openChannel, cmd_ops .parseHwaddr, cmd_ops .isMulticast, fun n =>
    ⟨cmd_ops (.register n), cmd_ops (.unregister n), cmd_ops (.send n), cmd_ops (.receive n), cmd_ops (.close n)⟩⟩

/-- Two 16-bit fields in one word: `(hi << 16) | lo`. -/
theorem shiftLeft_or_eq_append (hi lo : BitVec 16) : hi.setWidth 32 <<< 16 ||| lo.setWidth 32 = hi ++ lo := by
  rw [← BitVec.setWidth_append_eq_shiftLeft_setWidth_or, BitVec.setWidth_eq]

/-- Settles O4: a descriptor is its length followed by its offset. -/
theorem descriptorFieldsReadBack : Obligations.DescriptorFieldsReadBack := by
  unfold Obligations.DescriptorFieldsReadBack
  intro off len
  rw [descOff, descLen, desc, shiftLeft_or_eq_append, BitVec.extractLsb'_append_eq_left,
    BitVec.extractLsb'_append_eq_right]
  exact ⟨rfl, rfl⟩

/-- The operand of IS_MULTICAST takes ARG0 and ARG1[15:0] alone (R77). -/
theorem macOperand_withArgs (a c : Word32) (x y : BitVec 16) (s : State) :
    (withArgs a (x ++ y) c s).macOperand = a ++ y :=
  congrArg (a ++ ·) BitVec.extractLsb'_append_eq_right

/-- Settles O28: the operand is ARG0 followed by ARG1[15:0], as RESP_MAC_HI and RESP_MAC_LO hold an address. -/
theorem macPackingAgrees : Obligations.MacPackingAgrees := by
  unfold Obligations.MacPackingAgrees
  refine ⟨fun s => ⟨?_, ?_, ?_, ?_⟩, fun s m x => ?_⟩
  · exact BitVec.extractLsb'_append_eq_left
  · exact BitVec.extractLsb'_append_eq_right
  · exact BitVec.extractLsb'_append_eq_of_le (by decide)
  · rw [State.macOperand, BitVec.extractLsb'_append_eq_of_add_le (by decide),
      BitVec.extractLsb'_extractLsb'_of_le (by decide)]
  · have hlow : (s.setRespMac m).resp.macLo ||| x.setWidth 32 <<< 16 = x ++ m.extractLsb' 0 16 :=
      (BitVec.or_comm _ _).trans (shiftLeft_or_eq_append x _)
    rw [hlow, macOperand_withArgs]
    show m.extractLsb' 16 32 ++ m.extractLsb' 0 16 = m
    rw [BitVec.extractLsb'_append_extractLsb'_eq_extractLsb' (show 16 = 0 + 16 from rfl), BitVec.extractLsb'_eq_self]

end Sys2Proof.Proofs.Encoding

namespace Sys2Proof.Proofs.UnreadArguments
/-! The argument registers a command does not read (R79). `IgnoresArgs` says that a computation commutes with putting
other values there; the checks and the ENV requests have the property when what follows them has it, so that each
command is judged by following it to its ends. -/

open Sys2Proof Sys2Proof.Machine Sys2Proof.Claims
open Sys2Proof.Proofs.MemoryMap (buildFrame_eq_fMemWriteList)

variable {a b c : Word32} {s : State} {k : State → Out} {ch : BitVec 8}

/-- From `s`, `k` does the same when the argument registers hold `a`, `b` and `c`. -/
def IgnoresArgs (a b c : Word32) (k : State → Out) (s : State) : Prop :=
  k (withArgs a b c s) = onNext (withArgs a b c) (k s)

/-! The checks that stand before a command's body. -/

theorem commandFault_withArgs (cause : FaultCause) :
    (withArgs a b c s).commandFault cause = withArgs a b c (s.commandFault cause) := by
  rw [State.commandFault_eq, State.commandFault_eq]
  rfl

theorem requireOpen_ignoresArgs (hk : IgnoresArgs a b c k s) : IgnoresArgs a b c (requireOpen ch · k) s := by
  show requireOpen ch (withArgs a b c s) k = onNext _ (requireOpen ch s k)
  cases hopen : s.slotOpen ch with
  | true =>
    rw [requireOpen_of_open hopen, requireOpen_of_open (s := withArgs a b c s) hopen]
    exact hk
  | false =>
    rw [requireOpen_of_not_open hopen, requireOpen_of_not_open (s := withArgs a b c s) hopen,
      commandFault_withArgs]
    rfl

theorem requireRange_ignoresArgs {ds : List Word32} (hk : IgnoresArgs a b c k s) :
    IgnoresArgs a b c (requireRange ds · k) s := by
  show requireRange ds (withArgs a b c s) k = onNext _ (requireRange ds s k)
  cases hrange : ds.all s.inRange with
  | true =>
    rw [requireRange_of_inRange hrange, requireRange_of_inRange (s := withArgs a b c s) hrange]
    exact hk
  | false =>
    rw [requireRange_of_not_inRange hrange, requireRange_of_not_inRange (s := withArgs a b c s) hrange,
      commandFault_withArgs]
    rfl

theorem requireState_ignoresArgs {legal : List ChState} {d : Channel} (hk : IgnoresArgs a b c k s) :
    IgnoresArgs a b c (requireState legal d · k) s := by
  unfold IgnoresArgs requireState
  split
  · exact hk
  · rfl

theorem env_withArgs : (withArgs a b c s).env = s.env := rfl

/-! The requests; what follows an answer is judged by `hk`, whichever answer it is. -/

theorem askParseEndpointUrl_ignoresArgs {url : List Byte} {k : Answer UrlParts → State → Out}
    (hk : ∀ r env e, IgnoresArgs a b c (k r) (s.answered env e)) :
    IgnoresArgs a b c (askParseEndpointUrl url · k) s := by
  simp only [IgnoresArgs, askParseEndpointUrl, env_withArgs]
  split
  · rfl
  · exact hk _ _ _

theorem askResolveInterface_ignoresArgs {name : List Byte} {k : Answer IfaceInfo → State → Out}
    (hk : ∀ q env e, IgnoresArgs a b c (k q) (s.answered env e)) :
    IgnoresArgs a b c (askResolveInterface name · k) s := by
  simp only [IgnoresArgs, askResolveInterface, env_withArgs]
  split
  · rfl
  · exact hk _ _ _

theorem askAllocateFrame_ignoresArgs {size : Word32} {k : Answer Word32 → State → Out}
    (hk : ∀ r env e, IgnoresArgs a b c (k r) (s.answered env e)) :
    IgnoresArgs a b c (askAllocateFrame size · k) s := by
  simp only [IgnoresArgs, askAllocateFrame, env_withArgs]
  split
  · rfl
  · exact hk _ _ _

theorem askTransmit_ignoresArgs {ifh fb : Word32} {src dst : Mac48} {et : BitVec 16} {k : Answer Unit → State → Out}
    (hk : ∀ x env e, IgnoresArgs a b c (k x) (s.answered env e)) :
    IgnoresArgs a b c (askTransmit ifh fb src dst et · k) s := by
  simp only [IgnoresArgs, askTransmit, env_withArgs]
  split
  · rfl
  · exact hk _ _ _

theorem askFreeFrame_ignoresArgs {fb : Word32} (hk : ∀ env e, IgnoresArgs a b c k (s.answered env e).dropFrame) :
    IgnoresArgs a b c (askFreeFrame fb · k) s := by
  simp only [IgnoresArgs, askFreeFrame, env_withArgs]
  split
  · rfl
  · exact hk _ _

theorem askJoinGroup_ignoresArgs {ifh : Word32} {mac : Mac48} {k : Answer Unit → State → Out}
    (hk : ∀ r env e, IgnoresArgs a b c (k r) (s.answered env e)) :
    IgnoresArgs a b c (askJoinGroup ifh mac · k) s := by
  simp only [IgnoresArgs, askJoinGroup, env_withArgs]
  split
  · rfl
  · exact hk _ _ _

theorem askLeaveGroup_ignoresArgs {ifh : Word32} {mac : Mac48} {k : Answer Unit → State → Out}
    (hk : ∀ r env e, IgnoresArgs a b c (k r) (s.answered env e)) :
    IgnoresArgs a b c (askLeaveGroup ifh mac · k) s := by
  simp only [IgnoresArgs, askLeaveGroup, env_withArgs]
  split
  · rfl
  · exact hk _ _ _

/-! The commands that read no argument register. -/

theorem finishGroup_ignoresArgs {st : ChState} {r : Answer Unit} : IgnoresArgs a b c (finishGroup ch st r) s := by
  cases r with
  | err => rfl
  | ok u =>
    show Host.Outcome.next (((withArgs a b c s).transition ch st).respond .ok) =
      .next (withArgs a b c ((s.transition ch st).respond .ok))
    rw [State.transition_eq, State.transition_eq]
    rfl

theorem registerBody_ignoresArgs {d : Channel} : IgnoresArgs a b c (registerBody ch d) s := by
  refine requireState_ignoresArgs ?_
  unfold IgnoresArgs
  split
  · exact askJoinGroup_ignoresArgs fun _ _ _ => finishGroup_ignoresArgs
  · exact finishGroup_ignoresArgs

theorem unregisterBody_ignoresArgs {d : Channel} : IgnoresArgs a b c (unregisterBody ch d) s := by
  refine requireState_ignoresArgs ?_
  unfold IgnoresArgs
  split
  · exact askLeaveGroup_ignoresArgs fun _ _ _ => finishGroup_ignoresArgs
  · exact finishGroup_ignoresArgs

theorem execRegister_ignoresArgs : IgnoresArgs a b c (execRegister ch) s :=
  requireOpen_ignoresArgs (registerBody_ignoresArgs (s := s.setRespCh ch.toNat))

theorem execUnregister_ignoresArgs : IgnoresArgs a b c (execUnregister ch) s :=
  requireOpen_ignoresArgs (unregisterBody_ignoresArgs (s := s.setRespCh ch.toNat))

/-- RECEIVE is given its timeout, ARG0, and does not use it (R78). -/
theorem execReceive_ignoresArgs : IgnoresArgs a b c (execReceive ch) s :=
  requireOpen_ignoresArgs (requireState_ignoresArgs (s := s.setRespCh ch.toNat) rfl)

theorem execClose_ignoresArgs : IgnoresArgs a b c (execClose ch) s :=
  requireOpen_ignoresArgs rfl

/-! The commands that read ARG0, and OPEN. -/

theorem fMemWriteList_withArgs (off : Nat) (bs : List Byte) :
    (withArgs a b c s).fMemWriteList off bs = withArgs a b c (s.fMemWriteList off bs) := by
  induction bs generalizing s off with
  | nil => rfl
  | cons x bs ih => exact ih (s := s.fMemWrite off x) (off + 1)

theorem buildFrame_withArgs (d : Channel) (payload : List Byte) :
    (withArgs a b c s).buildFrame d payload = withArgs a b c (s.buildFrame d payload) := by
  rw [buildFrame_eq_fMemWriteList, buildFrame_eq_fMemWriteList]
  exact fMemWriteList_withArgs _ _

theorem sendFrame_ignoresArgs {d : Channel} {payload : List Byte} {fb : Word32} :
    IgnoresArgs a b c (sendFrame d payload fb) s := by
  unfold IgnoresArgs sendFrame
  rw [buildFrame_withArgs]
  exact askTransmit_ignoresArgs fun _ _ _ => askFreeFrame_ignoresArgs fun _ _ => rfl

theorem sendBody_ignoresArgs {d : Channel} : IgnoresArgs s.arg0 b c (sendBody d) s := by
  refine requireState_ignoresArgs (askAllocateFrame_ignoresArgs fun r env e => ?_)
  cases r with
  | err => rfl
  | ok fb => exact sendFrame_ignoresArgs (s := (s.answered env e).holdFrame fb _)

theorem execSend_ignoresArgs : IgnoresArgs s.arg0 b c (execSend ch) s :=
  requireOpen_ignoresArgs (requireRange_ignoresArgs (sendBody_ignoresArgs (s := s.setRespCh ch.toNat)))

theorem parseHwaddrBody_ignoresArgs : IgnoresArgs s.arg0 b c parseHwaddrBody s := by
  have hparse : parseHw (withArgs s.arg0 b c s).params.groupDigits
      ((withArgs s.arg0 b c s).operand (withArgs s.arg0 b c s).arg0) =
        parseHw s.params.groupDigits (s.operand s.arg0) := rfl
  unfold IgnoresArgs parseHwaddrBody
  rw [hparse]
  split
  · rfl
  · rfl

theorem execParseHwaddr_ignoresArgs : IgnoresArgs s.arg0 b c execParseHwaddr s :=
  requireRange_ignoresArgs parseHwaddrBody_ignoresArgs

/-- IS_MULTICAST reads ARG0 and ARG1[15:0] (R77). -/
theorem execIsMulticast_ignoresArgs (h : b.extractLsb' 0 16 = s.arg1.extractLsb' 0 16) :
    IgnoresArgs s.arg0 b c execIsMulticast s := by
  have hsame : (withArgs s.arg0 b c s).macOperand = s.macOperand := congrArg (s.arg0 ++ ·) h
  unfold IgnoresArgs execIsMulticast
  rw [hsame]
  rfl

theorem openResolve_ignoresArgs {u : UrlParts} {tmac : Mac48} {n : Nat} :
    IgnoresArgs s.arg0 s.arg1 c (openResolve u tmac n) s := by
  refine askResolveInterface_ignoresArgs fun q env e => ?_
  cases q with
  | err => rfl
  | ok f => rfl

theorem openTarget_ignoresArgs {u : UrlParts} : IgnoresArgs s.arg0 s.arg1 c (openTarget u) s := by
  have hparams : (withArgs s.arg0 s.arg1 c s).params = s.params := rfl
  have hslot : (withArgs s.arg0 s.arg1 c s).freeSlot = s.freeSlot := rfl
  unfold IgnoresArgs openTarget
  rw [hparams, hslot]
  split
  · rfl
  · split
    · rfl
    · exact openResolve_ignoresArgs

theorem openBody_ignoresArgs (h : c.getLsbD 0 = s.arg2.getLsbD 0) : IgnoresArgs s.arg0 s.arg1 c openBody s := by
  have hkind : (withArgs s.arg0 s.arg1 c s).addrKind = s.addrKind := h
  unfold IgnoresArgs openBody
  rw [hkind]
  split
  · refine askParseEndpointUrl_ignoresArgs fun r env e => ?_
    cases r with
    | err => rfl
    | ok u => exact openTarget_ignoresArgs (s := s.answered env e)
  · rfl

/-- OPEN reads ADDR_KIND, bit 0 of ARG2 (R24). -/
theorem execOpen_ignoresArgs (h : c.getLsbD 0 = s.arg2.getLsbD 0) : IgnoresArgs s.arg0 s.arg1 c execOpen s :=
  requireRange_ignoresArgs (openBody_ignoresArgs h)

/-- Settles O55: one lemma a command, each with the registers or bits the command reads left as they are. -/
theorem unreadArgumentsIgnored : Obligations.UnreadArgumentsIgnored := by
  unfold Obligations.UnreadArgumentsIgnored
  intro s a b c ch
  simp only [List.forall_mem_cons, List.not_mem_nil, IsEmpty.forall_iff, implies_true, and_true]
  exact ⟨⟨execRegister_ignoresArgs, execUnregister_ignoresArgs, execReceive_ignoresArgs, execClose_ignoresArgs⟩,
    ⟨execSend_ignoresArgs, execParseHwaddr_ignoresArgs⟩, execIsMulticast_ignoresArgs, execOpen_ignoresArgs⟩

end Sys2Proof.Proofs.UnreadArguments

namespace Sys2Proof.Proofs.HwaddrCodec
/-! The hardware-address codec (spec/40_hwaddr_codec.md). `parseGroup_append` says what the parser does with a maximal
run of hex digits; since every text begins with exactly one such run (`exists_hexRun`), it characterises the parser
group by group. The round trip with `formatHw` follows. -/

open Sys2Proof Sys2Proof.Machine Sys2Proof.Claims
open Sys2Proof.Proofs.MemoryMap (inRange_eq_true_iff toNat_append_eq_add)

variable {s t : State} {b : Byte} {g text rest bs : List Byte} {mode : GroupDigitsMode} {m : Mac48}

/-! Hex digits. -/

theorem hexVal_of_decimal (h : 0x30 ≤ b.toNat ∧ b.toNat ≤ 0x39) : hexVal b = some (b.toNat - 0x30) := if_pos h

theorem hexVal_of_upperCase (h : 0x41 ≤ b.toNat ∧ b.toNat ≤ 0x46) : hexVal b = some (b.toNat - 0x37) := by
  rw [hexVal, if_neg (by omega), if_pos h]

theorem hexVal_of_lowerCase (h : 0x61 ≤ b.toNat ∧ b.toNat ≤ 0x66) : hexVal b = some (b.toNat - 0x57) := by
  rw [hexVal, if_neg (by omega), if_neg (by omega), if_pos h]

theorem hexVal_of_no_digit (h : ¬ (0x30 ≤ b.toNat ∧ b.toNat ≤ 0x39) ∧ ¬ (0x41 ≤ b.toNat ∧ b.toNat ≤ 0x46) ∧
    ¬ (0x61 ≤ b.toNat ∧ b.toNat ≤ 0x66)) : hexVal b = none := by
  obtain ⟨hdecimal, hupper, hlower⟩ := h
  rw [hexVal, if_neg hdecimal, if_neg hupper, if_neg hlower]

/-- Settles O22: the separator by definition, the bytes by their range. -/
theorem hexDigitValues : Obligations.HexDigitValues :=
  ⟨rfl, fun _ => ⟨hexVal_of_decimal, hexVal_of_upperCase, hexVal_of_lowerCase, hexVal_of_no_digit⟩⟩

theorem hexVal_separator : hexVal separator = none := hexVal_of_no_digit (by decide)

/-! The scan of a group. -/

/-- Every byte of `g` is a hex digit. -/
def AllHex (g : List Byte) : Prop := ∀ x ∈ g, (hexVal x).isSome = true

/-- A run of hex digits ends before this text: it is empty or begins with another byte. -/
def NoHexAhead (text : List Byte) : Prop := ∀ x ∈ text.head?, hexVal x = none

/-- The value of a run of hex digits that follows digits of value `v`; `groupValue` starts from 0. -/
def valueFrom (v : Nat) (g : List Byte) : Nat := g.foldl (fun v b => v * 16 + (hexVal b).getD 0) v

theorem groupValue_eq_valueFrom (g : List Byte) : groupValue g = valueFrom 0 g := rfl

theorem noHexAhead_nil : NoHexAhead [] := nofun

theorem noHexAhead_cons : NoHexAhead (b :: rest) ↔ hexVal b = none := by simp [NoHexAhead]

theorem scanGroup_cons_hex {x : Nat} (h : hexVal b = some x) (text : List Byte) (v d : Nat) :
    scanGroup (b :: text) v d = scanGroup text (v * 16 + x) (d + 1) := by
  simp only [scanGroup, h]

theorem scanSaturating_cons_hex {x : Nat} (h : hexVal b = some x) (text : List Byte) (v d : Nat) :
    scanSaturating (b :: text) v d = scanSaturating text (min (v * 16 + x) 256) (d + 1) := by
  simp only [scanSaturating, h]

theorem scanGroup_of_noHexAhead (h : NoHexAhead text) (v d : Nat) : scanGroup text v d = (v, d, text) := by
  cases text with
  | nil => rfl
  | cons b rest => simp only [scanGroup, noHexAhead_cons.mp h]

theorem scanSaturating_of_noHexAhead (h : NoHexAhead text) (v d : Nat) : scanSaturating text v d = (v, d, text) := by
  cases text with
  | nil => rfl
  | cons b rest => simp only [scanSaturating, noHexAhead_cons.mp h]

/-- Settles O25, by induction on the text: saturating before or after the next digit gives the same. -/
theorem saturatingScanAgrees : Obligations.SaturatingScanAgrees := by
  unfold Obligations.SaturatingScanAgrees
  intro text
  induction text with
  | nil => exact fun v d => ⟨rfl, rfl⟩
  | cons b rest ih =>
    intro v d
    cases hb : hexVal b with
    | none =>
      rw [scanSaturating_of_noHexAhead (noHexAhead_cons.mpr hb), scanGroup_of_noHexAhead (noHexAhead_cons.mpr hb)]
      exact ⟨rfl, rfl⟩
    | some x =>
      have hsat : min (min v 256 * 16 + x) 256 = min (v * 16 + x) 256 := by omega
      rw [scanSaturating_cons_hex hb, scanGroup_cons_hex hb, hsat]
      exact ih (v * 16 + x) (d + 1)

/-- The scan takes a maximal run of hex digits. -/
theorem scanGroup_append (hg : AllHex g) (hrest : NoHexAhead rest) (v d : Nat) :
    scanGroup (g ++ rest) v d = (valueFrom v g, d + g.length, rest) := by
  induction g generalizing v d with
  | nil => exact scanGroup_of_noHexAhead hrest v d
  | cons b g ih =>
    obtain ⟨hb, hg⟩ := List.forall_mem_cons.mp hg
    obtain ⟨x, hx⟩ := Option.isSome_iff_exists.mp hb
    rw [List.cons_append, scanGroup_cons_hex hx, ih hg]
    simp [valueFrom, hx, Nat.add_assoc, Nat.add_comm 1]

/-- A text begins with a maximal run of hex digits, which may be empty. -/
theorem exists_hexRun (text : List Byte) : ∃ g rest, text = g ++ rest ∧ AllHex g ∧ NoHexAhead rest := by
  induction text with
  | nil => exact ⟨[], [], rfl, nofun, noHexAhead_nil⟩
  | cons b text ih =>
    cases hb : hexVal b with
    | none => exact ⟨[], b :: text, rfl, nofun, noHexAhead_cons.mpr hb⟩
    | some x =>
      obtain ⟨g, rest, rfl, hg, hrest⟩ := ih
      exact ⟨b :: g, rest, rfl, List.forall_mem_cons.mpr ⟨by rw [hb]; rfl, hg⟩, hrest⟩

/-! The parser, group by group. -/

/-- On a maximal run of hex digits the parser's three tests are those of `IsGroup`. -/
theorem parseGroup_append (hg : AllHex g) (hrest : NoHexAhead rest) :
    parseGroup mode (g ++ rest) = some (b, text) ↔ IsGroup mode g b ∧ rest = text := by
  unfold parseGroup IsGroup
  rw [scanGroup_append hg hrest, ← groupValue_eq_valueFrom]
  simp only [Nat.zero_add, List.length_eq_zero_iff]
  split
  · next hempty => exact iff_of_false nofun fun ⟨⟨hne, _⟩, _⟩ => hne hempty
  · next hnonempty =>
    split
    · next hlong =>
      obtain ⟨hmode, hlong⟩ := hlong
      exact iff_of_false nofun fun ⟨⟨_, _, _, hshort, _⟩, _⟩ => absurd (hshort hmode) (not_le.mpr hlong)
    · next hshort =>
      have hmax2 : mode = .max2 → g.length ≤ 2 := fun hm => not_lt.mp fun hl => hshort ⟨hm, hl⟩
      split
      · next hlarge => exact iff_of_false nofun fun ⟨⟨_, _, hsmall, _⟩, _⟩ => absurd hsmall (not_le.mpr hlarge)
      · next hsmall =>
        rw [Option.some_inj, Prod.mk_inj]
        exact ⟨fun ⟨hb, he⟩ => ⟨⟨hnonempty, hg, not_lt.mp hsmall, hmax2, hb.symm⟩, he⟩,
          fun ⟨⟨_, _, _, _, hb⟩, he⟩ => ⟨hb.symm, he⟩⟩

theorem parseGroup_eq_some_iff : parseGroup mode text = some (b, rest) ↔
    ∃ g, text = g ++ rest ∧ IsGroup mode g b ∧ NoHexAhead rest := by
  constructor
  · intro h
    obtain ⟨g, rest', rfl, hg, hrest⟩ := exists_hexRun text
    obtain ⟨hgroup, rfl⟩ := (parseGroup_append hg hrest).mp h
    exact ⟨g, rfl, hgroup, hrest⟩
  · rintro ⟨g, rfl, hgroup, hrest⟩
    have ⟨_, hg, _⟩ := hgroup
    exact (parseGroup_append hg hrest).mpr ⟨hgroup, rfl⟩

theorem parseSeparator_eq_some_iff : parseSeparator text = some rest ↔ text = separator :: rest := by
  cases text with
  | nil => simp [parseSeparator]
  | cons b text => simp [parseSeparator]

theorem parseGroupThenSeparator_eq_some_iff : parseGroupThenSeparator mode text = some (b, rest) ↔
    ∃ g, text = g ++ separator :: rest ∧ IsGroup mode g b := by
  have hstop : NoHexAhead (separator :: rest) := noHexAhead_cons.mpr hexVal_separator
  constructor
  · intro h
    unfold parseGroupThenSeparator at h
    split at h
    · cases h
    · next c u hc =>
      obtain ⟨rest', hsep, he⟩ := Option.map_eq_some_iff.mp h
      cases he
      rw [parseSeparator_eq_some_iff.mp hsep] at hc
      obtain ⟨g, he, hgroup, _⟩ := parseGroup_eq_some_iff.mp hc
      exact ⟨g, he, hgroup⟩
  · rintro ⟨g, rfl, hgroup⟩
    have hparse : parseGroup mode (g ++ separator :: rest) = some (b, separator :: rest) :=
      parseGroup_eq_some_iff.mpr ⟨g, rfl, hgroup, hstop⟩
    simp only [parseGroupThenSeparator, hparse, parseSeparator_eq_some_iff.mpr rfl, Option.map_some]

theorem parseGroups_zero_eq_some_iff : parseGroups mode 0 text = some bs ↔ ∃ b, IsGroup mode text b ∧ bs = [b] := by
  have hlast (b : Byte) : parseGroup mode text = some (b, []) ↔ IsGroup mode text b := by
    simp [parseGroup_eq_some_iff, noHexAhead_nil]
  constructor
  · intro h
    unfold parseGroups at h
    split at h
    · next b hb => exact ⟨b, (hlast b).mp hb, (Option.some.inj h).symm⟩
    · cases h
  · rintro ⟨b, hb, rfl⟩
    simp only [parseGroups, (hlast b).mpr hb]

theorem parseGroups_succ_eq_some_iff {n : Nat} : parseGroups mode (n + 1) text = some bs ↔
    ∃ g b rest bs', IsGroup mode g b ∧ text = g ++ separator :: rest ∧ parseGroups mode n rest = some bs' ∧
      bs = b :: bs' := by
  constructor
  · intro h
    unfold parseGroups at h
    split at h
    · cases h
    · next b rest hb =>
      obtain ⟨bs', hrest, rfl⟩ := Option.map_eq_some_iff.mp h
      obtain ⟨g, rfl, hgroup⟩ := parseGroupThenSeparator_eq_some_iff.mp hb
      exact ⟨g, b, rest, bs', hgroup, rfl, hrest, rfl⟩
  · rintro ⟨g, b, rest, bs', hgroup, rfl, hrest, rfl⟩
    simp only [parseGroups, parseGroupThenSeparator_eq_some_iff.mpr ⟨g, rfl, hgroup⟩, hrest, Option.map_some]

theorem parseHw_eq_some_iff : parseHw mode text = some m ↔
    ∃ b0 b1 b2 b3 b4 b5, parseGroups mode 5 text = some [b0, b1, b2, b3, b4, b5] ∧ m = macOfBytes b0 b1 b2 b3 b4 b5 := by
  constructor
  · intro h
    unfold parseHw at h
    split at h
    · next b0 b1 b2 b3 b4 b5 hbs => exact ⟨b0, b1, b2, b3, b4, b5, hbs, (Option.some.inj h).symm⟩
    · cases h
  · rintro ⟨b0, b1, b2, b3, b4, b5, hbs, rfl⟩
    simp only [parseHw, hbs]

/-- Settles O24: five times what the parser says of a group and its separator, then what it says of the last group. -/
theorem parseAcceptsExactlySixGroups : Obligations.ParseAcceptsExactlySixGroups := by
  unfold Obligations.ParseAcceptsExactlySixGroups
  intro mode text m
  simp only [parseHw_eq_some_iff, parseGroups_succ_eq_some_iff, parseGroups_zero_eq_some_iff]
  constructor
  · rintro ⟨b0, b1, b2, b3, b4, b5,
      ⟨g0, _, _, _, h0, rfl,
        ⟨g1, _, _, _, h1, rfl,
          ⟨g2, _, _, _, h2, rfl,
            ⟨g3, _, _, _, h3, rfl,
              ⟨g4, _, g5, _, h4, rfl, ⟨_, h5, rfl⟩, rfl⟩, rfl⟩, rfl⟩, rfl⟩, hbytes⟩, rfl⟩
    cases hbytes
    exact ⟨g0, g1, g2, g3, g4, g5, b0, b1, b2, b3, b4, b5, h0, h1, h2, h3, h4, h5, rfl, rfl⟩
  · rintro ⟨g0, g1, g2, g3, g4, g5, b0, b1, b2, b3, b4, b5, h0, h1, h2, h3, h4, h5, rfl, rfl⟩
    exact ⟨b0, b1, b2, b3, b4, b5,
      ⟨g0, b0, _, _, h0, rfl,
        ⟨g1, b1, _, _, h1, rfl,
          ⟨g2, b2, _, _, h2, rfl,
            ⟨g3, b3, _, _, h3, rfl,
              ⟨g4, b4, g5, _, h4, rfl, ⟨b5, h5, rfl⟩, rfl⟩, rfl⟩, rfl⟩, rfl⟩, rfl⟩, rfl⟩

/-! The canonical text. -/

theorem hexVal_hexDigit (n : BitVec 4) : hexVal (hexDigit n) = some n.toNat := by
  have hn := n.isLt
  unfold hexDigit
  split
  · next hdecimal =>
    have htoNat : (BitVec.ofNat 8 (0x30 + n.toNat)).toNat = 0x30 + n.toNat := Nat.mod_eq_of_lt (by omega)
    rw [hexVal_of_decimal (by omega), htoNat, Nat.add_sub_cancel_left]
  · next hletter =>
    have htoNat : (BitVec.ofNat 8 (0x37 + n.toNat)).toNat = 0x37 + n.toNat := Nat.mod_eq_of_lt (by omega)
    rw [hexVal_of_upperCase (by omega), htoNat, Nat.add_sub_cancel_left]

theorem groupValue_hexPair (b : Byte) : groupValue (hexPair b) = b.toNat := by
  have hb := b.isLt
  simp only [groupValue, hexPair, List.foldl_cons, List.foldl_nil, hexVal_hexDigit, Option.getD_some,
    BitVec.extractLsb'_toNat, Nat.shiftRight_eq_div_pow]
  omega

/-- The two digits of a byte are a group of its value in both digit modes. -/
theorem isGroup_hexPair (mode : GroupDigitsMode) (b : Byte) : IsGroup mode (hexPair b) b := by
  have hdigits : AllHex (hexPair b) := by simp [AllHex, hexPair, hexVal_hexDigit]
  refine ⟨List.cons_ne_nil _ _, hdigits, ?_, fun _ => le_rfl, ?_⟩
  · rw [groupValue_hexPair]
    exact Nat.le_of_lt_succ b.isLt
  · rw [groupValue_hexPair, BitVec.ofNat_toNat, BitVec.setWidth_eq]

/-- An address is its six bytes side by side (R19). -/
theorem eq_append_macBytes (m : Mac48) :
    m = macByte m 0 ++ macByte m 1 ++ macByte m 2 ++ macByte m 3 ++ macByte m 4 ++ macByte m 5 := by
  apply BitVec.eq_of_toNat_eq
  simp only [toNat_append_eq_add, macByte, BitVec.extractLsb'_toNat, Nat.shiftRight_eq_div_pow]
  omega

/-- Settles O23: the canonical text is six groups whose values are the bytes of the address. -/
theorem parseOfFormatIsIdentity : Obligations.ParseOfFormatIsIdentity := by
  unfold Obligations.ParseOfFormatIsIdentity
  intro mode m
  have hgroup (i : Nat) : IsGroup mode (hexPair (macByte m i)) (macByte m i) := isGroup_hexPair mode _
  exact (parseAcceptsExactlySixGroups mode (formatHw m) m).mpr ⟨_, _, _, _, _, _, _, _, _, _, _, _,
    hgroup 0, hgroup 1, hgroup 2, hgroup 3, hgroup 4, hgroup 5, rfl, eq_append_macBytes m⟩

/-! PARSE_HWADDR and IS_MULTICAST. -/

theorem execParseHwaddr_of_inOpm (h : InOpm s s.arg0) : execParseHwaddr s = parseHwaddrBody s :=
  requireRange_of_inRange (by simpa using inRange_eq_true_iff.mpr h)

/-- Settles O26: in range, the parser's answer alone decides. -/
theorem parseHwaddrResult : Obligations.ParseHwaddrResult := by
  unfold Obligations.ParseHwaddrResult
  intro s hrange
  show (∀ m, parseHw s.params.groupDigits (s.operand s.arg0) = some m → execParseHwaddr s = _) ∧
    (parseHw s.params.groupDigits (s.operand s.arg0) = none → execParseHwaddr s = _)
  rw [execParseHwaddr_of_inOpm hrange, parseHwaddrBody]
  constructor
  · intro m hm
    rw [hm]
    rfl
  · intro hnone
    rw [hnone]
    rfl

/-- The flags of an address, without the class between (R96, R99). -/
theorem classFlags_classify (m : Mac48) : classFlags (classify m) =
    if m = 0xFFFFFFFFFFFF#48 then 8#32 else if m.getLsbD 40 then 5#32 else 0#32 := by
  unfold classify
  rw [apply_ite classFlags, apply_ite classFlags]
  rfl

/-- Settles O27: the operand is the address, and its class gives the flags. -/
theorem isMulticastResult : Obligations.IsMulticastResult := by
  unfold Obligations.IsMulticastResult
  rintro s m rfl
  rw [← classFlags_classify]
  rfl

/-! The commands that make no ENV request. -/

/-- The command `i` led from `s` to `t` with no ENV request: the history, the answers to come and the frame buffer are as
they were, and so is the channel table unless `i` is a CLOSE. -/
def AskedNothing (i : Instr) (s t : State) : Prop :=
  t.history = s.history ∧ t.env = s.env ∧ t.frame = s.frame ∧ ((∀ ch, i ≠ .close ch) → t.channels = s.channels)

theorem commandFault_askedNothing (i : Instr) (s : State) (cause : FaultCause) :
    AskedNothing i s (s.commandFault cause) := by
  rw [State.commandFault_eq]
  exact ⟨rfl, rfl, rfl, fun _ => rfl⟩

theorem execParseHwaddr_askedNothing (h : execParseHwaddr s = .next t) : AskedNothing .parseHwaddr s t := by
  rcases execParseHwaddr_next h with ⟨_, rfl⟩ | ⟨_, ⟨m, _, rfl⟩ | ⟨_, rfl⟩⟩
  · exact commandFault_askedNothing _ s _
  · exact ⟨rfl, rfl, rfl, fun _ => rfl⟩
  · exact ⟨rfl, rfl, rfl, fun _ => rfl⟩

theorem execIsMulticast_askedNothing (h : execIsMulticast s = .next t) : AskedNothing .isMulticast s t := by
  rw [execIsMulticast_next h]
  exact ⟨rfl, rfl, rfl, fun _ => rfl⟩

theorem execReceive_askedNothing {ch : BitVec 8} (h : execReceive ch s = .next t) :
    AskedNothing (.receive ch) s t := by
  rcases execReceive_next h with ⟨_, rfl⟩ | ⟨_, ⟨_, rfl⟩ | ⟨_, rfl⟩⟩
  · exact commandFault_askedNothing _ s _
  · exact ⟨rfl, rfl, rfl, fun _ => rfl⟩
  · exact ⟨rfl, rfl, rfl, fun _ => rfl⟩

theorem execClose_askedNothing {ch : BitVec 8} (h : execClose ch s = .next t) : AskedNothing (.close ch) s t := by
  rcases execClose_next h with ⟨_, rfl⟩ | ⟨_, rfl⟩
  · exact commandFault_askedNothing _ s _
  · exact ⟨rfl, rfl, rfl, fun hne => absurd rfl (hne ch)⟩

/-- Settles O49: one lemma a command. -/
theorem localCommandsAskNothing : Obligations.LocalCommandsAskNothing := by
  unfold Obligations.LocalCommandsAskNothing
  rintro i s t (rfl | rfl | ⟨ch, rfl⟩ | ⟨ch, rfl⟩) h
  · exact execParseHwaddr_askedNothing h
  · exact execIsMulticast_askedNothing h
  · exact execReceive_askedNothing h
  · exact execClose_askedNothing h

end Sys2Proof.Proofs.HwaddrCodec

namespace Sys2Proof.Proofs.EthernetChannel
/-! The channel commands (spec/41_ethernet_channel.md). The results follow a command through its checks and requests,
each with the outcome the claim assumes; the rules over every outcome are read off the cases the model's laws list. -/

open Sys2Proof Sys2Proof.Machine Sys2Proof.Claims
open Sys2Proof.Proofs.BlockState (CommandLeaves MovesState afterRequests exec_leaves chan_commandFault
  commandsLeaveHostSide)
open Sys2Proof.Proofs.MemoryMap (inRange_eq_true_iff tci_toNat frameBufferIsWrittenWhole)
open Sys2Proof.Proofs.UnreadArguments (IgnoresArgs requireRange_ignoresArgs askParseEndpointUrl_ignoresArgs
  askResolveInterface_ignoresArgs)

variable {s t : State} {i : Instr} {ch : BitVec 8} {c : Channel}

/-! The requests, answered. -/

section Requests

variable {r : Answer Unit} {rest : List (Answer Unit)} {k : Answer Unit → State → Out} {ifh fb : Word32}
  {mac src dst : Mac48} {et : BitVec 16}

theorem askJoinGroup_of_answer (h : s.env.joinGroup = r :: rest) : askJoinGroup ifh mac s k =
    k r (s.answered { s.env with joinGroup := rest } (.joinGroup ifh mac r)) := by
  simp only [askJoinGroup, h]

theorem askLeaveGroup_of_answer (h : s.env.leaveGroup = r :: rest) : askLeaveGroup ifh mac s k =
    k r (s.answered { s.env with leaveGroup := rest } (.leaveGroup ifh mac r)) := by
  simp only [askLeaveGroup, h]

theorem askTransmit_of_answer (h : s.env.transmit = r :: rest) : askTransmit ifh fb src dst et s k =
    k r (s.answered { s.env with transmit := rest } (.transmit ifh fb src dst et s.frameBytes r)) := by
  simp only [askTransmit, h]

end Requests

theorem askFreeFrame_of_answer {fb : Word32} {rest : List Unit} {k : State → Out} (h : s.env.freeFrame = () :: rest) :
    askFreeFrame fb s k = k (s.answered { s.env with freeFrame := rest } (.freeFrame fb)).dropFrame := by
  simp only [askFreeFrame, h]

theorem askAllocateFrame_of_answer {size : Word32} {r : Answer Word32} {rest : List (Answer Word32)}
    {k : Answer Word32 → State → Out} (h : s.env.allocateFrame = r :: rest) : askAllocateFrame size s k =
      k r (s.answered { s.env with allocateFrame := rest } (.allocateFrame size r)) := by
  simp only [askAllocateFrame, h]

theorem askParseEndpointUrl_of_answer {url : List Byte} {r : Answer UrlParts} {rest : List (Answer UrlParts)}
    {k : Answer UrlParts → State → Out} (h : s.env.parseEndpointUrl = r :: rest) : askParseEndpointUrl url s k =
      k r (s.answered { s.env with parseEndpointUrl := rest } (.parseEndpointUrl url r)) := by
  simp only [askParseEndpointUrl, h]

theorem askResolveInterface_of_answer {name : List Byte} {r : Answer IfaceInfo} {rest : List (Answer IfaceInfo)}
    {k : Answer IfaceInfo → State → Out} (h : s.env.resolveInterface = r :: rest) : askResolveInterface name s k =
      k r (s.answered { s.env with resolveInterface := rest } (.resolveInterface name r)) := by
  simp only [askResolveInterface, h]

/-! The checks of a channel command on an open slot, and what they leave to its body. -/

theorem slotOpen_of_openSlot (h : OpenSlot s ch c) : s.slotOpen ch = true := by
  obtain ⟨hlt, rfl, hvalid⟩ := h
  exact (s.slotOpen_iff ch).mpr ⟨hlt, hvalid⟩

/-- RESP_CH holds the slot number of a channel command (R110). -/
theorem setRespCh_toNat (s : State) (ch : BitVec 8) :
    s.setRespCh ch.toNat = { s with resp := { s.resp with ch := ch.setWidth 32 } } := by
  rw [State.setRespCh, BitVec.ofNat_toNat, BitVec.setWidth_eq]

theorem exec_register_of_open (h : OpenSlot s ch c) :
    exec (.register ch) s = registerBody ch c (s.setRespCh ch.toNat) := by
  obtain ⟨_, rfl, _⟩ := id h
  rw [exec, execRegister, requireOpen_of_open (slotOpen_of_openSlot h)]

theorem exec_unregister_of_open (h : OpenSlot s ch c) :
    exec (.unregister ch) s = unregisterBody ch c (s.setRespCh ch.toNat) := by
  obtain ⟨_, rfl, _⟩ := id h
  rw [exec, execUnregister, requireOpen_of_open (slotOpen_of_openSlot h)]

theorem exec_send_of_open (h : OpenSlot s ch c) (hrange : InOpm s s.arg0) :
    exec (.send ch) s = sendBody c (s.setRespCh ch.toNat) := by
  obtain ⟨_, rfl, _⟩ := id h
  have hall : [s.arg0].all s.inRange = true := by simpa using inRange_eq_true_iff.mpr hrange
  rw [exec, execSend, requireOpen_of_open (slotOpen_of_openSlot h), requireRange_of_inRange hall]

theorem exec_receive_of_open (h : OpenSlot s ch c) :
    exec (.receive ch) s = receiveBody s.timeoutMicros c (s.setRespCh ch.toNat) := by
  obtain ⟨_, rfl, _⟩ := id h
  rw [exec, execReceive, requireOpen_of_open (slotOpen_of_openSlot h)]

theorem exec_close_of_open (h : OpenSlot s ch c) : exec (.close ch) s =
    .next (((s.setRespCh ch.toNat).setChannel ch.toNat Channel.free).respond .ok) := by
  rw [exec, execClose, requireOpen_of_open (slotOpen_of_openSlot h)]

/-! RECEIVE and CLOSE. -/

/-- Settles O42: the state check passes, and the stub's writes are all there is. -/
theorem receiveResult : Obligations.ReceiveResult := by
  unfold Obligations.ReceiveResult
  intro s ch c hopen hstate
  rw [exec_receive_of_open hopen, receiveBody, requireState_of_mem hstate, setRespCh_toNat]
  rfl

/-- Settles O43: the slot is in the table, so that freeing it is seen there and nowhere else. -/
theorem closeResult : Obligations.CloseResult := by
  unfold Obligations.CloseResult
  intro s ch c hopen
  refine ⟨_, exec_close_of_open hopen, ?_, fun n hn => ?_, ?_⟩
  · obtain ⟨_, rfl, hvalid⟩ := hopen
    exact State.chan_setChannel_same _ Channel.free (State.lt_length_of_valid hvalid)
  · exact State.chan_setChannel_other _ Channel.free hn
  · rw [setRespCh_toNat]
    rfl

/-! REGISTER and UNREGISTER. -/

/-- The model's multicast test is the spec's (R96, R97). -/
theorem isMulticastAddr_iff (m : Mac48) : isMulticastAddr m = true ↔ Multicast m := by
  rw [isMulticastAddr, decide_eq_true_iff, classify]
  split
  · next hbroadcast => simp [hbroadcast, Config.broadcast]
  · next hbroadcast =>
    split
    · next hbit => exact iff_of_true rfl ⟨hbit, hbroadcast⟩
    · next hbit => exact iff_of_false nofun fun h => hbit h.1

/-- A successful end of REGISTER or UNREGISTER, whatever the group request, if any, has left. -/
theorem finishGroup_ok (st : ChState) (history : List Event) (env : EnvAnswers) :
    finishGroup ch st (.ok ()) (afterRequests s.frame history env (s.setRespCh ch.toNat)) = .next { s with
      resp := channelResp s.resp ch 0x00#32
      channels := mirrored s ch (s.chan ch.toNat) st
      history := history
      env := env } := by
  rw [finishGroup, State.transition_eq, setRespCh_toNat]
  rfl

theorem finishGroup_err (st : ChState) (history : List Event) (env : EnvAnswers) :
    finishGroup ch st .err (afterRequests s.frame history env (s.setRespCh ch.toNat)) = .next { s with
      resp := channelResp s.resp ch 0x07#32
      history := history
      env := env } := by
  rw [finishGroup, setRespCh_toNat]
  rfl

/-- Settles O32: the target's class decides whether JoinGroup is sent, and its answer how the command ends. -/
theorem registerResult : Obligations.RegisterResult := by
  unfold Obligations.RegisterResult
  intro s ch c rest hopen hstate
  rw [exec_register_of_open hopen, registerBody, requireState_of_mem hstate]
  obtain ⟨_, rfl, _⟩ := hopen
  simp only [isMulticastAddr_iff]
  refine ⟨fun hm => ?_, fun hm henv => ?_, fun hm henv => ?_⟩
  · rw [if_neg hm]
    exact finishGroup_ok _ s.history s.env
  · rw [if_pos hm, askJoinGroup_of_answer (s := s.setRespCh ch.toNat) henv]
    exact finishGroup_ok _ _ _
  · rw [if_pos hm, askJoinGroup_of_answer (s := s.setRespCh ch.toNat) henv]
    exact finishGroup_err _ _ _

/-- Settles O33: as for REGISTER, with LeaveGroup. -/
theorem unregisterResult : Obligations.UnregisterResult := by
  unfold Obligations.UnregisterResult
  intro s ch c rest hopen hstate
  rw [exec_unregister_of_open hopen, unregisterBody, requireState_of_mem hstate]
  obtain ⟨_, rfl, _⟩ := hopen
  simp only [isMulticastAddr_iff]
  refine ⟨fun hm => ?_, fun hm henv => ?_, fun hm henv => ?_⟩
  · rw [if_neg hm]
    exact finishGroup_ok _ s.history s.env
  · rw [if_pos hm, askLeaveGroup_of_answer (s := s.setRespCh ch.toNat) henv]
    exact finishGroup_ok _ _ _
  · rw [if_pos hm, askLeaveGroup_of_answer (s := s.setRespCh ch.toNat) henv]
    exact finishGroup_err _ _ _

/-- The only status of a command fault is FAULTED (R154). -/
theorem commandFault_status (s : State) (cause : FaultCause) : (s.commandFault cause).resp.status = 0xFF#32 := by
  rw [State.commandFault_eq]

theorem mirrored_of_mirror (h : s.params.regTransition = .mirror) (st : ChState) :
    mirrored s ch c st = s.channels.set ch.toNat { c with state := st } := by
  simp only [mirrored, h]

theorem mirrored_of_none (h : s.params.regTransition = .none) (st : ChState) : mirrored s ch c st = s.channels := by
  simp only [mirrored, h]

/-- The ways a REGISTER or UNREGISTER of slot `ch` from `s` can end; `legal` is its set of states and `move` its
transition. -/
inductive GroupEnds (legal : List ChState) (move : ChState → ChState) (ch : BitVec 8) (s : State) : State → Prop
  /-- The slot is not open (R72). -/
  | dangling : GroupEnds legal move ch s (s.commandFault .danglingHandle)
  /-- The state is outside the set (R111). -/
  | illegal (hstate : (s.chan ch.toNat).state ∉ legal) :
      GroupEnds legal move ch s ((s.setRespCh ch.toNat).respond .invalidState)
  /-- The group request failed (R116, R118). -/
  | failed (history : List Event) (env : EnvAnswers) : GroupEnds legal move ch s
      ((afterRequests s.frame history env (s.setRespCh ch.toNat)).respond .internalError)
  /-- Success, with or without a group request (R117, R119). -/
  | done (hopen : s.slotOpen ch = true) (hstate : (s.chan ch.toNat).state ∈ legal) (history : List Event)
      (env : EnvAnswers) : GroupEnds legal move ch s
        (((afterRequests s.frame history env (s.setRespCh ch.toNat)).transition ch
          (move (s.chan ch.toNat).state)).respond .ok)

theorem execRegister_ends (h : execRegister ch s = .next t) :
    GroupEnds [.publisher, .ready] registeredState ch s t := by
  rcases execRegister_next h with ⟨_, rfl⟩ | ⟨hopen, ⟨hs, rfl⟩ | ⟨hs, _, rfl⟩ | ⟨hs, _, a, rest, _, u, rfl, ha⟩⟩
  · exact .dangling
  · exact .illegal hs
  · exact .done hopen hs s.history s.env
  · rcases ha with ⟨_, rfl⟩ | ⟨_, rfl⟩
    · exact .failed _ _
    · exact .done hopen hs _ _

theorem execUnregister_ends (h : execUnregister ch s = .next t) :
    GroupEnds [.publisherSubscriber, .subscriber] unregisteredState ch s t := by
  rcases execUnregister_next h with ⟨_, rfl⟩ | ⟨hopen, ⟨hs, rfl⟩ | ⟨hs, _, rfl⟩ | ⟨hs, _, a, rest, _, u, rfl, ha⟩⟩
  · exact .dangling
  · exact .illegal hs
  · exact .done hopen hs s.history s.env
  · rcases ha with ⟨_, rfl⟩ | ⟨_, rfl⟩
    · exact .failed _ _
    · exact .done hopen hs _ _

section GroupOutcomes

variable {legal : List ChState} {move : ChState → ChState}

/-- A REGISTER or UNREGISTER that ended OK has found an open slot in a legal state, and has made its transition. -/
theorem GroupEnds.of_ok (h : GroupEnds legal move ch s t) (hok : t.resp.status = 0x00#32) :
    s.slotOpen ch = true ∧ (s.chan ch.toNat).state ∈ legal ∧
      t.channels = mirrored s ch (s.chan ch.toNat) (move (s.chan ch.toNat).state) := by
  cases h with
  | dangling => exact absurd (commandFault_status s _ ▸ hok) (by decide)
  | illegal => exact absurd hok (show Status.invalidState.code ≠ 0x00#32 by decide)
  | failed => exact absurd hok (show Status.internalError.code ≠ 0x00#32 by decide)
  | done hopen hstate =>
    refine ⟨hopen, hstate, ?_⟩
    rw [State.transition_eq]
    rfl

/-- One that ended InvalidState has found a state outside its set. -/
theorem GroupEnds.not_mem_of_invalidState (h : GroupEnds legal move ch s t) (hst : t.resp.status = 0x04#32) :
    (s.chan ch.toNat).state ∉ legal := by
  cases h with
  | dangling => exact absurd (commandFault_status s _ ▸ hst) (by decide)
  | illegal hstate => exact hstate
  | failed => exact absurd hst (show Status.internalError.code ≠ 0x04#32 by decide)
  | done => exact absurd hst (show Status.ok.code ≠ 0x04#32 by decide)

/-- In MIRROR mode the slot then holds the record it held, with the new state. -/
theorem GroupEnds.chan_of_mirror (h : GroupEnds legal move ch s t) (hok : t.resp.status = 0x00#32)
    (hmode : s.params.regTransition = .mirror) :
    t.chan ch.toNat = { s.chan ch.toNat with state := move (s.chan ch.toNat).state } := by
  obtain ⟨hopen, _, hchannels⟩ := h.of_ok hok
  obtain ⟨_, hvalid⟩ := (s.slotOpen_iff ch).mp hopen
  rw [mirrored_of_mirror hmode] at hchannels
  exact (State.chan_congr (s := s.setChannel _ _) hchannels _).trans
    (State.chan_setChannel_same s _ (State.lt_length_of_valid hvalid))

theorem GroupEnds.channels_of_none (h : GroupEnds legal move ch s t) (hmode : s.params.regTransition = .none) :
    t.channels = s.channels := by
  cases h with
  | dangling => rw [State.commandFault_eq]
  | illegal | failed => rfl
  | done =>
    rw [State.transition_eq]
    exact mirrored_of_none hmode (move (s.chan ch.toNat).state)

end GroupOutcomes

/-- Settles O34: the move is that of `registeredState`, and in NONE mode there is none. -/
theorem registerTransition : Obligations.RegisterTransition := by
  unfold Obligations.RegisterTransition
  intro s t ch h
  have hends := execRegister_ends h
  refine ⟨fun hok hmode => ?_, fun hmode n => by rw [State.chan_congr (hends.channels_of_none hmode)]⟩
  rw [hends.chan_of_mirror hok hmode]
  exact ⟨fun hs => by rw [hs]; rfl, fun hs => by rw [hs]; rfl⟩

/-- Settles O35: the move is that of `unregisteredState`, and in NONE mode there is none. -/
theorem unregisterTransition : Obligations.UnregisterTransition := by
  unfold Obligations.UnregisterTransition
  intro s t ch h
  have hends := execUnregister_ends h
  refine ⟨fun hok hmode => ?_, fun hmode n => by rw [State.chan_congr (hends.channels_of_none hmode)]⟩
  rw [hends.chan_of_mirror hok hmode]
  exact ⟨fun hs => by rw [hs]; rfl, fun hs => by rw [hs]; rfl⟩

/-- UNREGISTER's transition undoes REGISTER's (R119). -/
theorem unregisteredState_registeredState {st : ChState} (h : st ∈ [ChState.publisher, .ready]) :
    unregisteredState (registeredState st) = st := by
  revert h
  cases st <;> decide

/-- Writing back the record a slot already holds leaves the table. -/
theorem channels_set_chan {n : Nat} (h : (s.chan n).valid = true) : s.channels.set n (s.chan n) = s.channels := by
  rw [s.chan_of_lt (State.lt_length_of_valid h), List.set_getElem_self]

/-- Settles O36: in MIRROR mode the second write puts the slot's first state back; in NONE mode neither writes. -/
theorem unregisterUndoesRegister : Obligations.UnregisterUndoesRegister := by
  unfold Obligations.UnregisterUndoesRegister
  intro s t u ch hreg htok hunreg huok
  have hends := execRegister_ends hreg
  obtain ⟨hopen, hstate, ht⟩ := hends.of_ok htok
  obtain ⟨_, _, hu⟩ := (execUnregister_ends hunreg).of_ok huok
  obtain ⟨_, _, _, _, _, _, hparams, _⟩ := commandsLeaveHostSide _ _ _ hreg
  obtain ⟨_, hvalid⟩ := (s.slotOpen_iff ch).mp hopen
  cases hmode : s.params.regTransition with
  | mirror =>
    rw [hu, mirrored_of_mirror (hparams ▸ hmode), hends.chan_of_mirror htok hmode, ht, mirrored_of_mirror hmode,
      List.set_set, unregisteredState_registeredState hstate]
    exact channels_set_chan hvalid
  | none => rw [hu, mirrored_of_none (hparams ▸ hmode), ht, mirrored_of_none hmode]

/-! SEND. -/

/-- The size SEND asks for: the payload, and 4 bytes for a tag (R120). -/
theorem frameSize_eq (c : Channel) (len : Nat) : c.frameSize len = len + if c.vid = 0#16 then 0 else 4 := by
  simp [Channel.frameSize, Channel.payloadBase, Channel.tagged, Config.vlanTagBytes]

theorem etherType_eq (c : Channel) : c.etherType = frameEtherType c := by
  simp [Channel.etherType, Channel.tagged, frameEtherType, Config.ethertypeVlan, Config.ethertypePubsub]

theorem transmitStatus_code (x : Answer Unit) : (transmitStatus x).code = if x = .err then 0x06#32 else 0x00#32 := by
  cases x <;> rfl

/-- SEND with a fresh buffer of the frame's size: the transmitter reads exactly the tag and the payload. -/
theorem sendFrame_of_answers {payload : List Byte} {len : Nat} {fb : Word32} {x : Answer Unit}
    {txs : List (Answer Unit)} {frees : List Unit} (hlen : payload.length = len) (htx : s.env.transmit = x :: txs)
    (hfree : s.env.freeFrame = () :: frees) :
    sendFrame c payload fb (s.holdFrame fb (c.frameSize len)) = .next { s with
      resp := { s.resp with status := if x = .err then 0x06#32 else 0x00#32 }
      frame := none
      history := s.history ++
        [.transmit c.ifh fb c.lmac c.tmac (frameEtherType c) (tagOf s.params.tagLayout c ++ payload) x, .freeFrame fb]
      env := { s.env with transmit := txs, freeFrame := frees } } := by
  subst hlen
  have hbuild : (s.holdFrame fb (c.frameSize payload.length)).buildFrame c payload =
      { s with frame := some { handle := fb, bytes := tagOf s.params.tagLayout c ++ payload } } :=
    frameBufferIsWrittenWhole (s.holdFrame fb (c.frameSize payload.length)) c payload _ rfl (by simp)
  rw [sendFrame, hbuild]
  refine (askTransmit_of_answer (by exact htx)).trans ((askFreeFrame_of_answer (by exact hfree)).trans ?_)
  rw [etherType_eq, State.respond, transmitStatus_code, List.append_cons]
  rfl

/-- Settles O37: `sendFrame_of_answers` on the buffer just allocated. -/
theorem sendTransmitsFrame : Obligations.SendTransmitsFrame := by
  unfold Obligations.SendTransmitsFrame
  intro s ch c fb x allocs txs frees hopen hstate hrange halloc htx hfree
  rw [exec_send_of_open hopen hrange, sendBody, requireState_of_mem hstate,
    askAllocateFrame_of_answer (s := s.setRespCh ch.toNat) halloc]
  refine (sendFrame_of_answers (s.operand_length s.arg0) (by exact htx) (by exact hfree)).trans ?_
  rw [State.answered_history, State.setRespCh_history, List.append_assoc, frameSize_eq, setRespCh_toNat]
  rfl

/-- Settles O38: the command ends at the answer of AllocateFrame. -/
theorem sendAllocationFailure : Obligations.SendAllocationFailure := by
  unfold Obligations.SendAllocationFailure
  intro s ch c allocs hopen hstate hrange halloc
  rw [exec_send_of_open hopen hrange, sendBody, requireState_of_mem hstate,
    askAllocateFrame_of_answer (s := s.setRespCh ch.toNat) halloc, frameSize_eq, setRespCh_toNat]
  rfl

/-- The end of a SEND that held a buffer: one Transmit and one FreeFrame of it, and the status of the Transmit. -/
theorem sendFrame_events {payload : List Byte} {fb : Word32} (h : sendFrame c payload fb s = .next t) :
    t.channels = s.channels ∧ t.frame = none ∧ ∃ bytes x,
      t.history = s.history ++ [.transmit c.ifh fb c.lmac c.tmac c.etherType bytes x, .freeFrame fb] ∧
        t.resp.status = (transmitStatus x).code := by
  obtain ⟨x, txs, u, frees, _, _, rfl⟩ := sendFrame_next h
  obtain ⟨f, hf⟩ := s.buildFrame_eq c payload
  rw [hf]
  exact ⟨rfl, rfl, _, x, List.append_assoc s.history _ _, rfl⟩

/-- The two ends of an answered Transmit are told apart by the status. -/
theorem transmitStatus_code_iff (x : Answer Unit) :
    (x = .err ↔ (transmitStatus x).code = 0x06#32) ∧ (x = .ok () ↔ (transmitStatus x).code = 0x00#32) := by
  cases x with
  | ok u => exact ⟨iff_of_false nofun (show Status.ok.code ≠ 0x06#32 by decide), iff_of_true rfl rfl⟩
  | err => exact ⟨iff_of_true rfl rfl, iff_of_false nofun (by decide)⟩

/-- Settles O39: the cases of SEND before an allocation, the failed one, and `sendFrame_events`. -/
theorem sendReleasesEveryBuffer : Obligations.SendReleasesEveryBuffer := by
  unfold Obligations.SendReleasesEveryBuffer
  intro s t ch h
  rcases execSend_next h with ⟨_, rfl⟩ | ⟨_, ⟨_, rfl⟩ | ⟨_, ⟨_, rfl⟩ | ⟨_, a, allocs, _, u, rfl, ha⟩⟩⟩
  · rw [State.commandFault_eq]
    exact ⟨rfl, [], (List.append_nil _).symm, .inl rfl⟩
  · rw [State.commandFault_eq]
    exact ⟨rfl, [], (List.append_nil _).symm, .inl rfl⟩
  · exact ⟨rfl, [], (List.append_nil _).symm, .inl rfl⟩
  · rcases ha with ⟨rfl, rfl⟩ | ⟨fb, rfl, hsend⟩
    · exact ⟨rfl, _, rfl, .inr (.inl ⟨_, rfl, rfl⟩)⟩
    · obtain ⟨hchannels, hframe, bytes, x, hhistory, hstatus⟩ := sendFrame_events hsend
      refine ⟨hchannels, _, hhistory.trans (List.append_assoc s.history _ _),
        .inr (.inr ⟨_, fb, _, _, _, _, bytes, x, rfl, hframe, ?_⟩)⟩
      rw [hstatus]
      exact transmitStatus_code_iff x

/-- A VID of at most 4095 leaves the TCI's upper bits to PRIO. -/
theorem getLsbD_eq_false_of_vid_le (h : c.vid.toNat ≤ 4095) {k : Nat} (hk : 12 ≤ k) : c.vid.getLsbD k = false :=
  Nat.testBit_lt_two_pow (lt_of_le_of_lt h (lt_of_lt_of_le (by decide) (Nat.pow_le_pow_right two_pos hk)))

/-- The TCI bit by bit: VID, and PRIO from bit 13 on (R121). -/
theorem tci_getLsbD (c : Channel) (k : Nat) :
    c.tci.getLsbD k = (c.vid.getLsbD k || (decide (k < 16) && !decide (k < 13) && c.prio.getLsbD (k - 13))) := by
  have hprio : (decide (k - 13 < 16) && c.prio.getLsbD (k - 13)) = c.prio.getLsbD (k - 13) := by
    cases hbit : c.prio.getLsbD (k - 13) with
    | false => exact Bool.and_false _
    | true => exact (Bool.and_true _).trans (decide_eq_true ((BitVec.lt_of_getLsbD hbit).trans (by decide)))
  rw [Channel.tci, Config.prioShift, BitVec.getLsbD_or, BitVec.getLsbD_shiftLeft, BitVec.getLsbD_setWidth, hprio]

/-- Settles O40: the fields are the TCI's bits, each VID's or PRIO's. -/
theorem tagControlFields : Obligations.TagControlFields := by
  unfold Obligations.TagControlFields
  intro c
  refine ⟨tci_toNat c, fun hvid _ => ⟨?_, ?_, ?_⟩⟩
  · apply BitVec.eq_of_getLsbD_eq
    intro k hk
    have hlow : k < 13 := by omega
    simp [BitVec.getLsbD_extractLsb', tci_getLsbD, hlow]
  · apply BitVec.eq_of_getLsbD_eq
    intro k hk
    have hword : 13 + k < 16 := by omega
    have hpast : c.vid.getLsbD (13 + k) = false := getLsbD_eq_false_of_vid_le hvid (by omega)
    simp only [BitVec.getLsbD_extractLsb', tci_getLsbD, hpast]
    simp [hk, hword]
  · rw [tci_getLsbD, getLsbD_eq_false_of_vid_le hvid (le_refl 12)]
    rfl

/-! OPEN. -/

theorem exec_open_of_inOpm (h0 : InOpm s s.arg0) (h1 : s.params.ifaceName = .config → InOpm s s.arg1) :
    exec .openChannel s = openBody s := by
  refine requireRange_of_inRange (List.all_eq_true.mpr fun d hd => inRange_eq_true_iff.mpr ?_)
  unfold State.openDescriptors at hd
  split at hd
  · next hmode =>
    rcases List.mem_pair.mp hd with rfl | rfl
    · exact h0
    · exact h1 hmode
  · obtain rfl := List.mem_singleton.mp hd
    exact h0

theorem operand_eq_operandBytes (s : State) (d : Word32) : s.operand d = operandBytes s d := rfl

theorem interfaceName_eq (s : State) : s.interfaceName = chosenName s := by
  cases hmode : s.params.ifaceName with
  | config => simp only [State.interfaceName, chosenName, hmode, operand_eq_operandBytes]
  | fixed name => simp only [State.interfaceName, chosenName, hmode]

section OpenBody

variable {u : UrlParts} {f : IfaceInfo} {tmac : Mac48} {n : Nat} {urls : List (Answer UrlParts)}
  {ifaces : List (Answer IfaceInfo)}

/-- Where OPEN goes on once ENV has answered its URL with `u`, and still has the answers `urls` to give (R112). -/
def urlParsed (u : UrlParts) (urls : List (Answer UrlParts)) (s : State) : State :=
  s.answered { s.env with parseEndpointUrl := urls } (.parseEndpointUrl (operandBytes s s.arg0) (.ok u))

theorem openBody_of_url (hkind : s.arg2.getLsbD 0 = true) (hurl : s.env.parseEndpointUrl = .ok u :: urls) :
    openBody s = openTarget u (urlParsed u urls s) := by
  rw [openBody, State.addrKind, if_pos hkind, askParseEndpointUrl_of_answer hurl]
  rfl

theorem openTarget_of_malformed (htarget : parseHw s.params.groupDigits u.target = none) :
    openTarget u s = .next (s.respond .invalidAddressFormat) := by
  simp only [openTarget, htarget]

theorem openTarget_of_full (htarget : parseHw s.params.groupDigits u.target = some tmac) (hslot : s.freeSlot = none) :
    openTarget u s = .next (s.respond .outOfMemory) := by
  simp only [openTarget, htarget, hslot]

theorem openTarget_of_slot (htarget : parseHw s.params.groupDigits u.target = some tmac) (hslot : s.freeSlot = some n) :
    openTarget u s = openResolve u tmac n s := by
  simp only [openTarget, htarget, hslot]

/-- A slot number fits RESP_CH[7:0] (R5, R26). -/
theorem ofNat_setWidth_of_lt (h : n < 256) : (BitVec.ofNat 8 n).setWidth 32 = BitVec.ofNat 32 n := by
  apply BitVec.eq_of_toNat_eq
  simp [Nat.mod_eq_of_lt h]

/-- OPEN's last step: the record, RESP_CH and the status, in a state whose two requests are recorded. -/
theorem openResolve_ok (hiface : s.env.resolveInterface = .ok f :: ifaces) (hn : n < 256) :
    openResolve u tmac n s = .next { s with
      resp := { s.resp with ch := BitVec.ofNat 32 n, status := 0x00#32 }
      channels := s.channels.set n (openedChannel u f tmac)
      history := s.history ++ [.resolveInterface (chosenName s) (.ok f)]
      env := { s.env with resolveInterface := ifaces } } := by
  rw [openResolve, askResolveInterface_of_answer hiface, interfaceName_eq, ← ofNat_setWidth_of_lt hn]
  rfl

theorem openResolve_err (hiface : s.env.resolveInterface = .err :: ifaces) : openResolve u tmac n s = .next { s with
    resp := { s.resp with status := 0x03#32 }
    history := s.history ++ [.resolveInterface (chosenName s) .err]
    env := { s.env with resolveInterface := ifaces } } := by
  rw [openResolve, askResolveInterface_of_answer hiface, interfaceName_eq]
  rfl

end OpenBody

/-- Settles O29: each check passes and each request is answered, in OPEN's order. -/
theorem openCreatesChannel : Obligations.OpenCreatesChannel := by
  unfold Obligations.OpenCreatesChannel
  intro s u f tmac n urls ifaces hlegal h0 h1 hkind hurl htarget hlt hfree hleast hiface
  obtain ⟨_, hle, _⟩ := hlegal
  have hslot : s.freeSlot = some n := (s.freeSlot_eq_some_iff n).mpr ⟨hlt, hfree, hleast⟩
  rw [exec_open_of_inOpm h0 h1, openBody_of_url hkind hurl,
    openTarget_of_slot (s := urlParsed u urls s) htarget hslot,
    openResolve_ok (s := urlParsed u urls s) hiface (by omega), urlParsed, State.answered_history, List.append_assoc]
  rfl

/-- A free slot below NUM_CHANNELS makes a least one. -/
theorem exists_freeSlot {n : Nat} (hlt : n < s.params.numChannels) (hfree : (s.chan n).valid = false) :
    ∃ m, s.freeSlot = some m := by
  refine Option.ne_none_iff_exists'.mp fun hnone => ?_
  simp [(s.freeSlot_eq_none_iff).mp hnone n hlt] at hfree

/-- Settles O30: each failure is where OPEN's next check or request ends it. -/
theorem openFailuresChangeNothing : Obligations.OpenFailuresChangeNothing := by
  unfold Obligations.OpenFailuresChangeNothing
  intro s urls ifaces h0 h1
  rw [exec_open_of_inOpm h0 h1]
  refine ⟨fun hkind => ?_, fun hkind hurl => ?_, fun u hkind hurl htarget => ?_,
    fun u tmac hkind hurl htarget hfull => ?_, fun u tmac n hkind hurl htarget hlt hfree hiface => ?_⟩
  · rw [openBody, State.addrKind, hkind]
    rfl
  · rw [openBody, State.addrKind, if_pos hkind, askParseEndpointUrl_of_answer hurl]
    rfl
  · rw [openBody_of_url hkind hurl, openTarget_of_malformed (s := urlParsed u urls s) htarget]
    rfl
  · have hslot : s.freeSlot = none := (s.freeSlot_eq_none_iff).mpr hfull
    rw [openBody_of_url hkind hurl, openTarget_of_full (s := urlParsed u urls s) htarget hslot]
    rfl
  · obtain ⟨m, hslot⟩ := exists_freeSlot hlt hfree
    rw [openBody_of_url hkind hurl, openTarget_of_slot (s := urlParsed u urls s) htarget hslot,
      openResolve_err (s := urlParsed u urls s) hiface, urlParsed, State.answered_history, List.append_assoc]
    rfl

/-- Whatever OPEN asks ENV to resolve is the name of R114. -/
theorem execOpen_history (h : execOpen s = .next t) :
    ∃ es, t.history = s.history ++ es ∧ ∀ name a, .resolveInterface name a ∈ es → name = chosenName s := by
  rcases execOpen_next h with ⟨_, rfl⟩ | ⟨_, ⟨_, rfl⟩ | ⟨_, r, urls, _, v, rfl, ho⟩⟩
  · exact ⟨[], by rw [State.commandFault_eq, List.append_nil], by simp⟩
  · exact ⟨[], (List.append_nil _).symm, by simp⟩
  · rcases ho with ⟨_, rfl⟩ | ⟨u, _, ⟨_, rfl⟩ | ⟨tmac, _, ⟨_, rfl⟩ | ⟨n, q, ifaces, _, _, w, rfl, hq⟩⟩⟩
    · exact ⟨_, rfl, by simp⟩
    · exact ⟨_, rfl, by simp⟩
    · exact ⟨_, rfl, by simp⟩
    · refine ⟨[.parseEndpointUrl (s.operand s.arg0) r, .resolveInterface s.interfaceName q], ?_, ?_⟩
      · rcases hq with ⟨_, rfl⟩ | ⟨f, _, rfl⟩ <;> exact List.append_assoc _ _ _
      · rw [interfaceName_eq]
        simp

section FixedName

variable {name : List Byte} {x : Word32}

/-! In FIXED mode OPEN does not read ARG1 (R114). -/

theorem openResolve_ignores_arg1 {u : UrlParts} {tmac : Mac48} {n : Nat} (hmode : s.params.ifaceName = .fixed name) :
    IgnoresArgs s.arg0 x s.arg2 (openResolve u tmac n) s := by
  have hname : (withArgs s.arg0 x s.arg2 s).interfaceName = s.interfaceName := by
    simp only [State.interfaceName, withArgs, hmode]
  unfold IgnoresArgs openResolve
  rw [hname]
  refine askResolveInterface_ignoresArgs fun q env e => ?_
  cases q with
  | err => rfl
  | ok f => rfl

theorem openTarget_ignores_arg1 {u : UrlParts} (hmode : s.params.ifaceName = .fixed name) :
    IgnoresArgs s.arg0 x s.arg2 (openTarget u) s := by
  have hparams : (withArgs s.arg0 x s.arg2 s).params = s.params := rfl
  have hslot : (withArgs s.arg0 x s.arg2 s).freeSlot = s.freeSlot := rfl
  unfold IgnoresArgs openTarget
  rw [hparams, hslot]
  split
  · rfl
  · split
    · rfl
    · exact openResolve_ignores_arg1 hmode

theorem openBody_ignores_arg1 (hmode : s.params.ifaceName = .fixed name) :
    IgnoresArgs s.arg0 x s.arg2 openBody s := by
  have hkind : (withArgs s.arg0 x s.arg2 s).addrKind = s.addrKind := rfl
  unfold IgnoresArgs openBody
  rw [hkind]
  split
  · refine askParseEndpointUrl_ignoresArgs fun r env e => ?_
    cases r with
    | err => rfl
    | ok u => exact openTarget_ignores_arg1 (s := s.answered env e) hmode
  · rfl

theorem execOpen_ignores_arg1 (hmode : s.params.ifaceName = .fixed name) :
    IgnoresArgs s.arg0 x s.arg2 execOpen s := by
  have hdescriptors : (withArgs s.arg0 x s.arg2 s).openDescriptors = s.openDescriptors := by
    simp only [State.openDescriptors, withArgs, hmode]
  unfold IgnoresArgs execOpen
  rw [hdescriptors]
  exact requireRange_ignoresArgs (openBody_ignores_arg1 hmode)

end FixedName

theorem onNext_congr {f g : State → State} {o : Out} (h : ∀ t, o = .next t → f t = g t) : onNext f o = onNext g o := by
  cases o with
  | next t => exact congrArg _ (h t rfl)
  | fault | refused => rfl

/-- Settles O31: `execOpen_history` gives the name; in FIXED mode no step of OPEN reads ARG1, and OPEN writes none of
the argument registers. -/
theorem openResolvesTheChosenName : Obligations.OpenResolvesTheChosenName := by
  unfold Obligations.OpenResolvesTheChosenName
  refine ⟨fun s t es name a h hhistory hmem => ?_, fun s fixedName x hmode => ?_⟩
  · obtain ⟨es', hes, hname⟩ := execOpen_history h
    obtain rfl : es = es' := List.append_cancel_left (hhistory.symm.trans hes)
    rw [hname name a hmem]
    exact ⟨fun hmode => by simp only [chosenName, hmode], fun fixedName hmode => by simp only [chosenName, hmode]⟩
  · refine (execOpen_ignores_arg1 hmode).trans (onNext_congr fun t h => ?_)
    obtain ⟨_, harg0, _, harg2, _⟩ := commandsLeaveHostSide .openChannel s t h
    rw [withArgs, ← harg0, ← harg2]

/-! Rules over all commands. -/

theorem mem_legalStates_close (st : ChState) : st ∈ legalStates (.close ch) := by
  cases st <;> simp [legalStates]

theorem exec_of_illegal_state (hi : i.isChannelCommand = true) (hopen : OpenSlot s i.chField c)
    (hrange : ∀ ch, i = .send ch → InOpm s s.arg0) (hstate : c.state ∉ legalStates i) :
    exec i s = .next ((s.setRespCh i.chField.toNat).respond .invalidState) := by
  cases i with
  | register ch => exact (exec_register_of_open hopen).trans (requireState_of_not_mem hstate)
  | unregister ch => exact (exec_unregister_of_open hopen).trans (requireState_of_not_mem hstate)
  | send ch => exact (exec_send_of_open hopen (hrange ch rfl)).trans (requireState_of_not_mem hstate)
  | receive ch => exact (exec_receive_of_open hopen).trans (requireState_of_not_mem hstate)
  | close ch => exact absurd (mem_legalStates_close c.state) hstate
  | openChannel | parseHwaddr | isMulticast => cases hi

/-! A command that ended InvalidState has found a state outside its set (R111). -/

theorem execSend_invalidState (h : execSend ch s = .next t) (hst : t.resp.status = 0x04#32) :
    (s.chan ch.toNat).state ∉ legalStates (.send ch) := by
  rcases execSend_next h with ⟨_, rfl⟩ | ⟨_, ⟨_, rfl⟩ | ⟨_, ⟨hs, _⟩ | ⟨_, a, rest, _, u, rfl, ha⟩⟩⟩
  · exact absurd (commandFault_status s _ ▸ hst) (by decide)
  · exact absurd (commandFault_status s _ ▸ hst) (by decide)
  · exact hs
  · rcases ha with ⟨_, rfl⟩ | ⟨fb, _, hsend⟩
    · exact absurd hst (show Status.outOfMemory.code ≠ 0x04#32 by decide)
    · obtain ⟨_, _, _, x, _, hstatus⟩ := sendFrame_events hsend
      rw [hstatus, transmitStatus_code] at hst
      exact absurd hst (by split <;> decide)

theorem execReceive_invalidState (h : execReceive ch s = .next t) (hst : t.resp.status = 0x04#32) :
    (s.chan ch.toNat).state ∉ legalStates (.receive ch) := by
  rcases execReceive_next h with ⟨_, rfl⟩ | ⟨_, ⟨hs, _⟩ | ⟨_, rfl⟩⟩
  · exact absurd (commandFault_status s _ ▸ hst) (by decide)
  · exact hs
  · exact absurd hst (show Status.ok.code ≠ 0x04#32 by decide)

theorem execClose_status_ne_invalidState (h : execClose ch s = .next t) : t.resp.status ≠ 0x04#32 := by
  rcases execClose_next h with ⟨_, rfl⟩ | ⟨_, rfl⟩
  · rw [commandFault_status]
    decide
  · exact (show Status.ok.code ≠ 0x04#32 by decide)

theorem exec_invalidState (hi : i.isChannelCommand = true) (h : exec i s = .next t) (hst : t.resp.status = 0x04#32) :
    (s.chan i.chField.toNat).state ∉ legalStates i := by
  cases i with
  | register ch => exact (execRegister_ends h).not_mem_of_invalidState hst
  | unregister ch => exact (execUnregister_ends h).not_mem_of_invalidState hst
  | send ch => exact execSend_invalidState h hst
  | receive ch => exact execReceive_invalidState h hst
  | close ch => exact absurd hst (execClose_status_ne_invalidState h)
  | openChannel | parseHwaddr | isMulticast => cases hi

/-- Settles O44: one lemma for the states outside the set, one for those in it. -/
theorem stateGating : Obligations.StateGating := by
  unfold Obligations.StateGating
  intro i s c hi hopen
  refine ⟨fun hrange hstate => ?_, fun hstate t h hst => ?_⟩
  · rw [exec_of_illegal_state hi hopen hrange hstate, setRespCh_toNat]
    rfl
  · obtain ⟨_, rfl, _⟩ := hopen
    exact exec_invalidState hi h hst hstate

/-- No transition leads to ERROR (R37, R117, R119). -/
theorem movesState_ne_error {st st' : ChState} (h : MovesState i st st') : st' ≠ .error := by
  cases h with
  | register h => cases st <;> decide
  | unregister h => cases st <;> decide

/-- A slot that a write to the table puts in ERROR was there before, if the record written is not in ERROR. -/
theorem error_of_setChannel {n k : Nat} (hc : c.state ≠ .error) (h : ((s.setChannel n c).chan k).state = .error) :
    (s.chan k).state = .error := by
  rcases s.chan_setChannel_cases n k c with he | ⟨_, _, he⟩ <;> rw [he] at h
  · exact h
  · exact absurd h hc

theorem leaves_channels_of_failed (hl : CommandLeaves s i t) (hst : t.resp.status ≠ 0x00#32) :
    t.channels = s.channels := by
  cases hl with
  | fault cause => rw [State.commandFault_eq]
  | failed | answered | parsed | classified | received => rfl
  | opened | moved | closed => exact absurd rfl hst

theorem leaves_error_before {n : Nat} (hl : CommandLeaves s i t) (h : (t.chan n).state = .error) :
    (s.chan n).state = .error := by
  cases hl with
  | fault cause => rwa [chan_commandFault] at h
  | failed | answered | parsed | classified | received => exact h
  | opened => exact error_of_setChannel (s := s) (show ChState.publisher ≠ .error by decide) h
  | moved _ _ _ hmove => exact error_of_setChannel (s := s) (movesState_ne_error hmove) h
  | closed => exact error_of_setChannel (s := s) (show ChState.unconfigured ≠ .error by decide) h

theorem leaves_frame_none (hl : CommandLeaves s i t) (h : s.frame = none) : t.frame = none := by
  cases hl with
  | fault cause => rwa [State.commandFault_eq]
  | answered _ _ hframe => exact hframe.elim (·.trans h) id
  | failed | opened | moved | closed | parsed | classified | received => exact h

/-- Settles O45: one lemma a clause, over the cases of `CommandLeaves`. -/
theorem failuresKeepChannels : Obligations.FailuresKeepChannels := by
  unfold Obligations.FailuresKeepChannels
  intro i s t h
  have hl := exec_leaves h
  exact ⟨leaves_channels_of_failed hl, fun _ => leaves_error_before hl, leaves_frame_none hl⟩

end Sys2Proof.Proofs.EthernetChannel

namespace Sys2Proof.Proofs.Exceptions
/-! Faults, statuses, and what ENV and the channel table are to a command (spec/60_exceptions.md). A faulted block and
the statuses are read off the cases the model's laws list. `Records` says that a history grew by the answers taken
from ENV; a stop on a silent ENV follows a command up to the request; `IgnoresSlot` says that a computation commutes
with putting another record in one slot. -/

open Sys2Proof Sys2Proof.Machine Sys2Proof.Claims
open Sys2Proof.Proofs.Scope (buildFrame_env)
open Sys2Proof.Proofs.BlockState (step_of_inputs)
open Sys2Proof.Proofs.MemoryMap (buildFrame_eq_fMemWriteList)
open Sys2Proof.Proofs.HwaddrCodec (localCommandsAskNothing)
open Sys2Proof.Proofs.EthernetChannel (GroupEnds execRegister_ends execUnregister_ends commandFault_status
  sendFrame_events isMulticastAddr_iff exec_register_of_open exec_unregister_of_open exec_send_of_open
  exec_open_of_inOpm openBody_of_url openTarget_of_slot exists_freeSlot urlParsed askAllocateFrame_of_answer
  askTransmit_of_answer)

variable {s t u : State} {i : Instr} {op : HostOp} {ch : BitVec 8} {c : Channel}

/-! A faulted block. -/

/-- Settles O6: of the cases of `issueCommand_cases`, a recorded fault leaves the first. -/
theorem faultedBlockAnswersFaulted : Obligations.FaultedBlockAnswersFaulted := by
  unfold Obligations.FaultedBlockAnswersFaulted
  intro s w rest hin hfault
  rw [step_of_inputs hin]
  show issueCommand w { s with inputs := rest } = _
  rcases issueCommand_cases w { s with inputs := rest } with ⟨_, he⟩ | ⟨h0, _⟩ | ⟨h0, _⟩
  · exact he
  · exact absurd h0 hfault
  · exact absurd h0 hfault

/-! The statuses of each command (R152). -/

theorem commandFault_status_mem (s : State) (cause : FaultCause) (codes : List Word32) :
    (s.commandFault cause).resp.status ∈ 0xFF#32 :: codes := by
  rw [commandFault_status]
  exact List.mem_cons_self

theorem respond_status_mem {st : Status} {codes : List Word32} (h : st.code ∈ codes) :
    (s.respond st).resp.status ∈ 0xFF#32 :: codes :=
  List.mem_cons_of_mem _ h

/-- REGISTER and UNREGISTER end with the same statuses. -/
theorem groupEnds_status_mem {legal : List ChState} {move : ChState → ChState} (h : GroupEnds legal move ch s t) :
    t.resp.status ∈ [0xFF#32, 0x00#32, 0x04#32, 0x07#32] := by
  cases h with
  | dangling => exact commandFault_status_mem s _ _
  | illegal => exact respond_status_mem (by decide)
  | failed => exact respond_status_mem (by decide)
  | done => exact respond_status_mem (by decide)

theorem execOpen_status_mem (h : execOpen s = .next t) : t.resp.status ∈ 0xFF#32 :: statusCodes .openChannel := by
  rcases execOpen_next h with ⟨_, rfl⟩ | ⟨_, ⟨_, rfl⟩ | ⟨_, r, urls, _, v, rfl, ho⟩⟩
  · exact commandFault_status_mem s _ _
  · exact respond_status_mem (by decide)
  · rcases ho with ⟨_, rfl⟩ | ⟨u, _, ⟨_, rfl⟩ | ⟨tmac, _, ⟨_, rfl⟩ | ⟨n, q, ifaces, _, _, w, rfl, hq⟩⟩⟩
    · exact respond_status_mem (by decide)
    · exact respond_status_mem (by decide)
    · exact respond_status_mem (by decide)
    · rcases hq with ⟨_, rfl⟩ | ⟨f, _, rfl⟩
      · exact respond_status_mem (by decide)
      · exact respond_status_mem (by decide)

theorem transmitStatus_code_mem (x : Answer Unit) : (transmitStatus x).code ∈ [0x00#32, 0x06#32] := by
  cases x with
  | ok u => exact List.mem_cons_self
  | err => decide

theorem execSend_status_mem (h : execSend ch s = .next t) :
    t.resp.status ∈ [0xFF#32, 0x00#32, 0x04#32, 0x05#32, 0x06#32] := by
  rcases execSend_next h with ⟨_, rfl⟩ | ⟨_, ⟨_, rfl⟩ | ⟨_, ⟨_, rfl⟩ | ⟨_, a, allocs, _, u, rfl, ha⟩⟩⟩
  · exact commandFault_status_mem s _ _
  · exact commandFault_status_mem s _ _
  · exact respond_status_mem (by decide)
  · rcases ha with ⟨_, rfl⟩ | ⟨fb, _, hsend⟩
    · exact respond_status_mem (by decide)
    · obtain ⟨_, _, _, x, _, hstatus⟩ := sendFrame_events hsend
      have hsub : [0x00#32, 0x06#32] ⊆ [0xFF#32, 0x00#32, 0x04#32, 0x05#32, 0x06#32] := by decide
      exact hstatus ▸ hsub (transmitStatus_code_mem x)

theorem execReceive_status_mem (h : execReceive ch s = .next t) : t.resp.status ∈ [0xFF#32, 0x00#32, 0x04#32] := by
  rcases execReceive_next h with ⟨_, rfl⟩ | ⟨_, ⟨_, rfl⟩ | ⟨_, rfl⟩⟩
  · exact commandFault_status_mem s _ _
  · exact respond_status_mem (by decide)
  · exact respond_status_mem (by decide)

theorem execClose_status_mem (h : execClose ch s = .next t) : t.resp.status ∈ [0xFF#32, 0x00#32] := by
  rcases execClose_next h with ⟨_, rfl⟩ | ⟨_, rfl⟩
  · exact commandFault_status_mem s _ _
  · exact respond_status_mem (by decide)

theorem execParseHwaddr_status_mem (h : execParseHwaddr s = .next t) :
    t.resp.status ∈ 0xFF#32 :: statusCodes .parseHwaddr := by
  rcases execParseHwaddr_next h with ⟨_, rfl⟩ | ⟨_, ⟨m, _, rfl⟩ | ⟨_, rfl⟩⟩
  · exact commandFault_status_mem s _ _
  · exact respond_status_mem (by decide)
  · exact respond_status_mem (by decide)

/-- Settles O54: one lemma a command, over the cases of its meaning. -/
theorem statusCodesByCommand : Obligations.StatusCodesByCommand := by
  unfold Obligations.StatusCodesByCommand
  intro i s t h
  cases i with
  | openChannel => exact execOpen_status_mem h
  | register ch => exact groupEnds_status_mem (execRegister_ends h)
  | unregister ch => exact groupEnds_status_mem (execUnregister_ends h)
  | send ch => exact execSend_status_mem h
  | receive ch => exact execReceive_status_mem h
  | close ch => exact execClose_status_mem h
  | parseHwaddr => exact execParseHwaddr_status_mem h
  | isMulticast =>
    rw [execIsMulticast_next h]
    exact respond_status_mem (by decide)

/-! The history and ENV's answers (R168). -/

/-- `TakesAnswer env e env'`: of the answers `env` ENV gives the first one of `e`'s kind, which `e` records, and `env'`
are those left. -/
inductive TakesAnswer (env : EnvAnswers) : Event → EnvAnswers → Prop
  | parseEndpointUrl {url : List Byte} {a : Answer UrlParts} {rest : List (Answer UrlParts)}
      (h : env.parseEndpointUrl = a :: rest) :
      TakesAnswer env (.parseEndpointUrl url a) { env with parseEndpointUrl := rest }
  | resolveInterface {name : List Byte} {a : Answer IfaceInfo} {rest : List (Answer IfaceInfo)}
      (h : env.resolveInterface = a :: rest) :
      TakesAnswer env (.resolveInterface name a) { env with resolveInterface := rest }
  | allocateFrame {size : Word32} {a : Answer Word32} {rest : List (Answer Word32)}
      (h : env.allocateFrame = a :: rest) : TakesAnswer env (.allocateFrame size a) { env with allocateFrame := rest }
  | transmit {ifh fb : Word32} {src dst : Mac48} {et : BitVec 16} {frame : List Byte} {a : Answer Unit}
      {rest : List (Answer Unit)} (h : env.transmit = a :: rest) :
      TakesAnswer env (.transmit ifh fb src dst et frame a) { env with transmit := rest }
  | freeFrame {fb : Word32} {a : Unit} {rest : List Unit} (h : env.freeFrame = a :: rest) :
      TakesAnswer env (.freeFrame fb) { env with freeFrame := rest }
  | joinGroup {ifh : Word32} {mac : Mac48} {a : Answer Unit} {rest : List (Answer Unit)}
      (h : env.joinGroup = a :: rest) : TakesAnswer env (.joinGroup ifh mac a) { env with joinGroup := rest }
  | leaveGroup {ifh : Word32} {mac : Mac48} {a : Answer Unit} {rest : List (Answer Unit)}
      (h : env.leaveGroup = a :: rest) : TakesAnswer env (.leaveGroup ifh mac a) { env with leaveGroup := rest }

/-- An event with its answer put back before those left gives the answers there were. -/
theorem TakesAnswer.env_eq {env env' : EnvAnswers} {e : Event} (h : TakesAnswer env e env') :
    env = answersThen (recordedAnswers [e]) env' := by
  cases h with
  | parseEndpointUrl h => exact congrArg ({ env with parseEndpointUrl := · }) h
  | resolveInterface h => exact congrArg ({ env with resolveInterface := · }) h
  | allocateFrame h => exact congrArg ({ env with allocateFrame := · }) h
  | transmit h => exact congrArg ({ env with transmit := · }) h
  | freeFrame h => exact congrArg ({ env with freeFrame := · }) h
  | joinGroup h => exact congrArg ({ env with joinGroup := · }) h
  | leaveGroup h => exact congrArg ({ env with leaveGroup := · }) h

theorem answersThen_recordedAnswers_append (es es' : List Event) (env : EnvAnswers) :
    answersThen (recordedAnswers (es ++ es')) env =
      answersThen (recordedAnswers es) (answersThen (recordedAnswers es') env) := by
  simp [answersThen, recordedAnswers]

/-- From `s` to `t` the history has grown by events that record exactly the answers taken from ENV. -/
def Records (s t : State) : Prop :=
  ∃ es, t.history = s.history ++ es ∧ s.env = answersThen (recordedAnswers es) t.env

/-- Nothing asked, nothing recorded. -/
theorem records_of_eq (hhistory : t.history = s.history) (henv : t.env = s.env) : Records s t :=
  ⟨[], by rw [hhistory, List.append_nil], henv.symm⟩

theorem Records.congr (h : Records s t) (hhistory : u.history = t.history) (henv : u.env = t.env) : Records s u := by
  unfold Records
  rwa [hhistory, henv]

/-- One more request keeps the account. -/
theorem Records.answered {env : EnvAnswers} {e : Event} (h : Records s t) (htake : TakesAnswer t.env e env) :
    Records s (t.answered env e) := by
  obtain ⟨es, hhistory, henv⟩ := h
  refine ⟨es ++ [e], ?_, ?_⟩
  · rw [State.answered_history, hhistory, List.append_assoc]
  · rw [State.answered_env, answersThen_recordedAnswers_append, ← htake.env_eq, henv]

theorem commandFault_records (s : State) (cause : FaultCause) : Records s (s.commandFault cause) := by
  rw [State.commandFault_eq]
  exact records_of_eq rfl rfl

theorem hostAccessFault_records (s : State) (a : HostAddr) : Records s (s.hostAccessFault a) := by
  rw [State.hostAccessFault_eq]
  exact records_of_eq rfl rfl

theorem Records.transition_respond (h : Records s t) (st : ChState) :
    Records s ((t.transition ch st).respond .ok) := by
  rw [State.transition_eq]
  exact h.congr rfl rfl

theorem execOpen_records (h : execOpen s = .next t) : Records s t := by
  rcases execOpen_next h with ⟨_, rfl⟩ | ⟨_, ⟨_, rfl⟩ | ⟨_, r, urls, hurl, v, hv, ho⟩⟩
  · exact commandFault_records s _
  · exact records_of_eq rfl rfl
  · have hparsed : Records s v := by
      rw [hv]
      exact (records_of_eq rfl rfl).answered (.parseEndpointUrl hurl)
    rcases ho with ⟨_, rfl⟩ | ⟨u, _, ⟨_, rfl⟩ | ⟨tmac, _, ⟨_, rfl⟩ | ⟨n, q, ifaces, _, hiface, w, hw, hq⟩⟩⟩
    · exact hparsed.congr rfl rfl
    · exact hparsed.congr rfl rfl
    · exact hparsed.congr rfl rfl
    · have hresolved : Records s w := by
        rw [hw]
        rw [hv] at hparsed ⊢
        exact hparsed.answered (.resolveInterface hiface)
      rcases hq with ⟨_, rfl⟩ | ⟨f, _, rfl⟩
      · exact hresolved.congr rfl rfl
      · exact hresolved.congr rfl rfl

theorem execRegister_records (h : execRegister ch s = .next t) : Records s t := by
  have hstart : Records s (s.setRespCh ch.toNat) := records_of_eq rfl rfl
  rcases execRegister_next h with ⟨_, rfl⟩ | ⟨_, ⟨_, rfl⟩ | ⟨_, _, rfl⟩ | ⟨_, _, a, rest, henv, u, hu, ha⟩⟩
  · exact commandFault_records s _
  · exact hstart.congr rfl rfl
  · exact hstart.transition_respond _
  · have hjoined : Records s u := by
      rw [hu]
      exact hstart.answered (.joinGroup henv)
    rcases ha with ⟨_, rfl⟩ | ⟨_, rfl⟩
    · exact hjoined.congr rfl rfl
    · exact hjoined.transition_respond _

theorem execUnregister_records (h : execUnregister ch s = .next t) : Records s t := by
  have hstart : Records s (s.setRespCh ch.toNat) := records_of_eq rfl rfl
  rcases execUnregister_next h with ⟨_, rfl⟩ | ⟨_, ⟨_, rfl⟩ | ⟨_, _, rfl⟩ | ⟨_, _, a, rest, henv, u, hu, ha⟩⟩
  · exact commandFault_records s _
  · exact hstart.congr rfl rfl
  · exact hstart.transition_respond _
  · have hleft : Records s u := by
      rw [hu]
      exact hstart.answered (.leaveGroup henv)
    rcases ha with ⟨_, rfl⟩ | ⟨_, rfl⟩
    · exact hleft.congr rfl rfl
    · exact hleft.transition_respond _

/-- The two requests of a SEND that holds a buffer. -/
theorem sendFrame_records {payload : List Byte} {fb : Word32} (hs : Records s t)
    (h : sendFrame c payload fb t = .next u) : Records s u := by
  obtain ⟨x, txs, a, frees, htx, hfree, rfl⟩ := sendFrame_next h
  obtain ⟨f, hf⟩ := t.buildFrame_eq c payload
  rw [hf]
  have hbuilt : Records s { t with frame := f } := hs.congr rfl rfl
  exact ((hbuilt.answered (.transmit htx)).answered (.freeFrame hfree)).congr rfl rfl

theorem execSend_records (h : execSend ch s = .next t) : Records s t := by
  have hstart : Records s (s.setRespCh ch.toNat) := records_of_eq rfl rfl
  rcases execSend_next h with ⟨_, rfl⟩ | ⟨_, ⟨_, rfl⟩ | ⟨_, ⟨_, rfl⟩ | ⟨_, a, allocs, halloc, u, hu, ha⟩⟩⟩
  · exact commandFault_records s _
  · exact commandFault_records s _
  · exact hstart.congr rfl rfl
  · have hallocated : Records s u := by
      rw [hu]
      exact hstart.answered (.allocateFrame halloc)
    rcases ha with ⟨_, rfl⟩ | ⟨fb, _, hsend⟩
    · exact hallocated.congr rfl rfl
    · refine sendFrame_records ?_ hsend
      exact hallocated.congr rfl rfl

theorem exec_records (h : exec i s = .next t) : Records s t := by
  cases i with
  | openChannel => exact execOpen_records h
  | register ch => exact execRegister_records h
  | unregister ch => exact execUnregister_records h
  | send ch => exact execSend_records h
  | receive | close | parseHwaddr | isMulticast =>
    obtain ⟨hhistory, henv, _⟩ := localCommandsAskNothing _ s t (by simp) h
    exact records_of_eq hhistory henv

theorem issueCommand_records {w : Word32} (h : issueCommand w s = .next t) : Records s t := by
  rcases issueCommand_cases w s with ⟨_, he⟩ | ⟨_, _, _, he⟩ | ⟨_, i, _, he⟩ <;> rw [he] at h
  · cases h
    exact records_of_eq rfl rfl
  · cases h
    exact commandFault_records (s.loadCommand w) _
  · exact exec_records (s := s.loadCommand w) h

theorem hostWrite32_records {a : HostAddr} {v : Word32} (h : hostWrite32 a v s = .next t) : Records s t := by
  rcases hostWrite32_cases a v s with ⟨_, he⟩ | ⟨_, he⟩ | ⟨_, he⟩ | ⟨_, he⟩ | ⟨_, he⟩ <;> rw [he] at h
  case inl => exact issueCommand_records h
  all_goals cases h
  case inr.inr.inr.inr => exact hostAccessFault_records s a
  all_goals exact records_of_eq rfl rfl

theorem hostRead32_records (a : HostAddr) : Records s (s.hostRead32 a) := by
  rcases s.hostRead32_cases a with ⟨v, _, _, he⟩ | ⟨_, he⟩ <;> rw [he]
  · exact records_of_eq rfl rfl
  · exact (hostAccessFault_records s a).congr rfl rfl

theorem hostRead8_records (a : HostAddr) : Records s (s.hostRead8 a) := by
  rcases s.hostRead8_cases a with ⟨k, _, he⟩ | ⟨_, he⟩ <;> rw [he]
  · exact records_of_eq rfl rfl
  · exact (hostAccessFault_records s a).congr rfl rfl

theorem hostWrite8_records (a : HostAddr) (b : Byte) : Records s (s.hostWrite8 a b) := by
  rcases s.hostWrite8_cases a b with ⟨k, _, he⟩ | ⟨_, he⟩ <;> rw [he]
  · exact records_of_eq rfl rfl
  · exact hostAccessFault_records s a

theorem perform_records (h : perform op s = .next t) : Records s t := by
  cases op with
  | read32 a => cases h; exact hostRead32_records a
  | write32 a v => exact hostWrite32_records h
  | read8 a => cases h; exact hostRead8_records a
  | write8 a b => cases h; exact hostWrite8_records a b
  | reset => cases h; exact records_of_eq rfl rfl

/-- Settles O51: a step waits or performs one host access, and `perform_records` covers every access. -/
theorem historyRecordsEveryAnswer : Obligations.HistoryRecordsEveryAnswer := by
  unfold Obligations.HistoryRecordsEveryAnswer
  intro s t h
  cases hin : s.inputs with
  | nil =>
    simp only [step, hin] at h
    cases h
    exact records_of_eq rfl rfl
  | cons op rest =>
    rw [step_of_inputs hin] at h
    exact perform_records (s := { s with inputs := rest }) h

/-! The requests, unanswered (R18, R168). -/

section Silence

variable {ifh fb size : Word32} {mac src dst : Mac48} {et : BitVec 16} {text : List Byte}

theorem askParseEndpointUrl_of_silent {k : Answer UrlParts → State → Out} (h : s.env.parseEndpointUrl = []) :
    askParseEndpointUrl text s k = .fault (.envSilent .parseEndpointUrl) := by
  simp only [askParseEndpointUrl, h]

theorem askResolveInterface_of_silent {k : Answer IfaceInfo → State → Out} (h : s.env.resolveInterface = []) :
    askResolveInterface text s k = .fault (.envSilent .resolveInterface) := by
  simp only [askResolveInterface, h]

theorem askAllocateFrame_of_silent {k : Answer Word32 → State → Out} (h : s.env.allocateFrame = []) :
    askAllocateFrame size s k = .fault (.envSilent .allocateFrame) := by
  simp only [askAllocateFrame, h]

theorem askTransmit_of_silent {k : Answer Unit → State → Out} (h : s.env.transmit = []) :
    askTransmit ifh fb src dst et s k = .fault (.envSilent .transmit) := by
  simp only [askTransmit, h]

theorem askFreeFrame_of_silent {k : State → Out} (h : s.env.freeFrame = []) :
    askFreeFrame fb s k = .fault (.envSilent .freeFrame) := by
  simp only [askFreeFrame, h]

theorem askJoinGroup_of_silent {k : Answer Unit → State → Out} (h : s.env.joinGroup = []) :
    askJoinGroup ifh mac s k = .fault (.envSilent .joinGroup) := by
  simp only [askJoinGroup, h]

theorem askLeaveGroup_of_silent {k : Answer Unit → State → Out} (h : s.env.leaveGroup = []) :
    askLeaveGroup ifh mac s k = .fault (.envSilent .leaveGroup) := by
  simp only [askLeaveGroup, h]

end Silence

theorem registerBody_of_silent (hstate : c.state ∈ legalStates (.register ch)) (hm : Multicast c.tmac)
    (henv : s.env.joinGroup = []) : registerBody ch c s = .fault (.envSilent .joinGroup) := by
  refine (requireState_of_mem hstate).trans ?_
  rw [if_pos ((isMulticastAddr_iff _).mpr hm)]
  exact askJoinGroup_of_silent henv

theorem unregisterBody_of_silent (hstate : c.state ∈ legalStates (.unregister ch)) (hm : Multicast c.tmac)
    (henv : s.env.leaveGroup = []) : unregisterBody ch c s = .fault (.envSilent .leaveGroup) := by
  refine (requireState_of_mem hstate).trans ?_
  rw [if_pos ((isMulticastAddr_iff _).mpr hm)]
  exact askLeaveGroup_of_silent henv

theorem sendBody_of_silent (hstate : c.state ∈ legalStates (.send ch)) (henv : s.env.allocateFrame = []) :
    sendBody c s = .fault (.envSilent .allocateFrame) :=
  (requireState_of_mem hstate).trans (askAllocateFrame_of_silent henv)

/-- Where SEND goes on once its checks have passed and it has a buffer. -/
theorem sendBody_of_allocated {fb : Word32} {allocs : List (Answer Word32)} (hstate : c.state ∈ legalStates (.send ch))
    (halloc : s.env.allocateFrame = .ok fb :: allocs) : sendBody c s =
      sendFrame c (s.operand s.arg0) fb ((s.answered { s.env with allocateFrame := allocs }
        (.allocateFrame (BitVec.ofNat 32 (c.frameSize (descLen s.arg0))) (.ok fb))).holdFrame fb
          (c.frameSize (descLen s.arg0))) :=
  (requireState_of_mem hstate).trans (askAllocateFrame_of_answer halloc)

theorem sendFrame_of_silent_transmit {payload : List Byte} {fb : Word32} (htx : s.env.transmit = []) :
    sendFrame c payload fb s = .fault (.envSilent .transmit) :=
  askTransmit_of_silent (by rw [buildFrame_env, htx])

theorem sendFrame_of_silent_freeFrame {payload : List Byte} {fb : Word32} (htx : s.env.transmit ≠ [])
    (hfree : s.env.freeFrame = []) : sendFrame c payload fb s = .fault (.envSilent .freeFrame) := by
  obtain ⟨x, txs, htx⟩ := List.exists_cons_of_ne_nil htx
  rw [← buildFrame_env c payload] at htx hfree
  exact (askTransmit_of_answer htx).trans (askFreeFrame_of_silent hfree)

theorem openBody_of_silent (hkind : s.arg2.getLsbD 0 = true) (henv : s.env.parseEndpointUrl = []) :
    openBody s = .fault (.envSilent .parseEndpointUrl) := by
  rw [openBody, State.addrKind, if_pos hkind]
  exact askParseEndpointUrl_of_silent henv

/-- Settles O53: each command passes its checks and the requests before the silent one, in its own order. -/
theorem unansweredRequestIsStuck : Obligations.UnansweredRequestIsStuck := by
  unfold Obligations.UnansweredRequestIsStuck
  intro s ch c
  refine ⟨fun hopen hm => ⟨fun hstate henv => ?_, fun hstate henv => ?_⟩,
    fun hopen hstate hrange => ⟨fun halloc => ?_, fun fb allocs halloc => ⟨fun htx => ?_, fun htx hfree => ?_⟩⟩,
    fun h0 h1 hkind => ⟨fun hurl => ?_, fun u urls tmac n hurl htarget hlt hfree hiface => ?_⟩⟩
  · rw [exec_register_of_open hopen]
    exact registerBody_of_silent hstate hm henv
  · rw [exec_unregister_of_open hopen]
    exact unregisterBody_of_silent hstate hm henv
  · rw [exec_send_of_open hopen hrange]
    exact sendBody_of_silent hstate halloc
  · rw [exec_send_of_open hopen hrange, sendBody_of_allocated (s := s.setRespCh ch.toNat) hstate halloc]
    exact sendFrame_of_silent_transmit htx
  · rw [exec_send_of_open hopen hrange, sendBody_of_allocated (s := s.setRespCh ch.toNat) hstate halloc]
    exact sendFrame_of_silent_freeFrame htx hfree
  · rw [exec_open_of_inOpm h0 h1]
    exact openBody_of_silent hkind hurl
  · obtain ⟨m, hslot⟩ := exists_freeSlot hlt hfree
    rw [exec_open_of_inOpm h0 h1, openBody_of_url hkind hurl,
      openTarget_of_slot (s := urlParsed u urls s) htarget hslot]
    exact askResolveInterface_of_silent hiface

/-! The records of other slots (R169). -/

section OtherSlot

variable {n : Nat} {d : Channel} {k : State → Out}

/-- From `s`, `k` does the same with the record `d` in slot `n`, and leaves it there. -/
def IgnoresSlot (n : Nat) (d : Channel) (k : State → Out) (s : State) : Prop :=
  k (s.setChannel n d) = onNext (State.setChannel n d) (k s)

theorem setChannel_comm {m : Nat} (hn : n ≠ m) :
    (s.setChannel n d).setChannel m c = (s.setChannel m c).setChannel n d := by
  simp only [State.setChannel, List.set_comm d c hn]

theorem commandFault_setChannel (cause : FaultCause) :
    (s.setChannel n d).commandFault cause = (s.commandFault cause).setChannel n d := by
  rw [State.commandFault_eq, State.commandFault_eq]
  rfl

theorem slotOpen_setChannel_other (hn : n ≠ ch.toNat) : (s.setChannel n d).slotOpen ch = s.slotOpen ch := by
  rw [State.slotOpen, State.chan_setChannel_other s d hn.symm]
  rfl

/-! The checks. -/

theorem requireOpen_ignoresSlot (hn : n ≠ ch.toNat) (hk : IgnoresSlot n d k s) :
    IgnoresSlot n d (requireOpen ch · k) s := by
  show requireOpen ch (s.setChannel n d) k = onNext _ (requireOpen ch s k)
  cases hopen : s.slotOpen ch with
  | true =>
    rw [requireOpen_of_open hopen, requireOpen_of_open ((slotOpen_setChannel_other hn).trans hopen)]
    exact hk
  | false =>
    rw [requireOpen_of_not_open hopen, requireOpen_of_not_open ((slotOpen_setChannel_other hn).trans hopen),
      commandFault_setChannel]
    rfl

theorem requireRange_ignoresSlot {ds : List Word32} (hk : IgnoresSlot n d k s) :
    IgnoresSlot n d (requireRange ds · k) s := by
  show requireRange ds (s.setChannel n d) k = onNext _ (requireRange ds s k)
  cases hrange : ds.all s.inRange with
  | true =>
    rw [requireRange_of_inRange hrange, requireRange_of_inRange (s := s.setChannel n d) hrange]
    exact hk
  | false =>
    rw [requireRange_of_not_inRange hrange, requireRange_of_not_inRange (s := s.setChannel n d) hrange,
      commandFault_setChannel]
    rfl

theorem requireState_ignoresSlot {legal : List ChState} (hk : IgnoresSlot n d k s) :
    IgnoresSlot n d (requireState legal c · k) s := by
  unfold IgnoresSlot requireState
  split
  · exact hk
  · rfl

/-- A command's body is given the record of its own slot, which is the same whatever slot `n` holds. -/
theorem body_ignoresSlot {body : Channel → State → Out} (hn : n ≠ ch.toNat)
    (hk : IgnoresSlot n d (body (s.chan ch.toNat)) (s.setRespCh ch.toNat)) :
    IgnoresSlot n d (fun s => body (s.chan ch.toNat) (s.setRespCh ch.toNat)) s := by
  show body ((s.setChannel n d).chan ch.toNat) _ = _
  rw [State.chan_setChannel_other s d hn.symm]
  exact hk

/-! The requests; what follows an answer is judged by `hk`, whichever answer it is. -/

theorem askAllocateFrame_ignoresSlot {size : Word32} {k : Answer Word32 → State → Out}
    (hk : ∀ r env e, IgnoresSlot n d (k r) (s.answered env e)) :
    IgnoresSlot n d (askAllocateFrame size · k) s := by
  simp only [IgnoresSlot, askAllocateFrame, State.setChannel_env]
  split
  · rfl
  · exact hk _ _ _

theorem askTransmit_ignoresSlot {ifh fb : Word32} {src dst : Mac48} {et : BitVec 16} {k : Answer Unit → State → Out}
    (hk : ∀ x env e, IgnoresSlot n d (k x) (s.answered env e)) :
    IgnoresSlot n d (askTransmit ifh fb src dst et · k) s := by
  simp only [IgnoresSlot, askTransmit, State.setChannel_env]
  split
  · rfl
  · exact hk _ _ _

theorem askFreeFrame_ignoresSlot {fb : Word32} (hk : ∀ env e, IgnoresSlot n d k (s.answered env e).dropFrame) :
    IgnoresSlot n d (askFreeFrame fb · k) s := by
  simp only [IgnoresSlot, askFreeFrame, State.setChannel_env]
  split
  · rfl
  · exact hk _ _

theorem askJoinGroup_ignoresSlot {ifh : Word32} {mac : Mac48} {k : Answer Unit → State → Out}
    (hk : ∀ r env e, IgnoresSlot n d (k r) (s.answered env e)) :
    IgnoresSlot n d (askJoinGroup ifh mac · k) s := by
  simp only [IgnoresSlot, askJoinGroup, State.setChannel_env]
  split
  · rfl
  · exact hk _ _ _

theorem askLeaveGroup_ignoresSlot {ifh : Word32} {mac : Mac48} {k : Answer Unit → State → Out}
    (hk : ∀ r env e, IgnoresSlot n d (k r) (s.answered env e)) :
    IgnoresSlot n d (askLeaveGroup ifh mac · k) s := by
  simp only [IgnoresSlot, askLeaveGroup, State.setChannel_env]
  split
  · rfl
  · exact hk _ _ _

/-! The commands. -/

theorem transition_setChannel (hn : n ≠ ch.toNat) (st : ChState) :
    (s.setChannel n d).transition ch st = (s.transition ch st).setChannel n d := by
  unfold State.transition
  rw [State.setChannel_params]
  split
  · rw [State.setChannelState, State.chan_setChannel_other s d hn.symm, setChannel_comm hn]
    rfl
  · rfl

theorem finishGroup_ignoresSlot (hn : n ≠ ch.toNat) {st : ChState} {r : Answer Unit} :
    IgnoresSlot n d (finishGroup ch st r) s := by
  cases r with
  | err => rfl
  | ok u =>
    show Host.Outcome.next (((s.setChannel n d).transition ch st).respond .ok) = _
    rw [transition_setChannel hn]
    rfl

theorem registerBody_ignoresSlot (hn : n ≠ ch.toNat) : IgnoresSlot n d (registerBody ch c) s := by
  refine requireState_ignoresSlot ?_
  unfold IgnoresSlot
  split
  · exact askJoinGroup_ignoresSlot fun _ _ _ => finishGroup_ignoresSlot hn
  · exact finishGroup_ignoresSlot hn

theorem unregisterBody_ignoresSlot (hn : n ≠ ch.toNat) : IgnoresSlot n d (unregisterBody ch c) s := by
  refine requireState_ignoresSlot ?_
  unfold IgnoresSlot
  split
  · exact askLeaveGroup_ignoresSlot fun _ _ _ => finishGroup_ignoresSlot hn
  · exact finishGroup_ignoresSlot hn

theorem fMemWriteList_setChannel (off : Nat) (bs : List Byte) :
    (s.setChannel n d).fMemWriteList off bs = (s.fMemWriteList off bs).setChannel n d := by
  induction bs generalizing s off with
  | nil => rfl
  | cons b bs ih => exact ih (s := s.fMemWrite off b) (off + 1)

theorem buildFrame_setChannel (payload : List Byte) :
    (s.setChannel n d).buildFrame c payload = (s.buildFrame c payload).setChannel n d := by
  rw [buildFrame_eq_fMemWriteList, buildFrame_eq_fMemWriteList]
  exact fMemWriteList_setChannel _ _

theorem sendFrame_ignoresSlot {payload : List Byte} {fb : Word32} : IgnoresSlot n d (sendFrame c payload fb) s := by
  unfold IgnoresSlot sendFrame
  rw [buildFrame_setChannel]
  exact askTransmit_ignoresSlot fun _ _ _ => askFreeFrame_ignoresSlot fun _ _ => rfl

theorem sendBody_ignoresSlot : IgnoresSlot n d (sendBody c) s := by
  refine requireState_ignoresSlot ?_
  unfold IgnoresSlot
  simp only [State.setChannel_arg0]
  refine askAllocateFrame_ignoresSlot fun r env e => ?_
  cases r with
  | err => rfl
  | ok fb => exact sendFrame_ignoresSlot (s := (s.answered env e).holdFrame fb _)

theorem receiveBody_ignoresSlot {timeout : Nat} : IgnoresSlot n d (receiveBody timeout c) s :=
  requireState_ignoresSlot rfl

theorem execRegister_ignoresSlot (hn : n ≠ ch.toNat) : IgnoresSlot n d (execRegister ch) s :=
  requireOpen_ignoresSlot hn (body_ignoresSlot hn (registerBody_ignoresSlot hn))

theorem execUnregister_ignoresSlot (hn : n ≠ ch.toNat) : IgnoresSlot n d (execUnregister ch) s :=
  requireOpen_ignoresSlot hn (body_ignoresSlot hn (unregisterBody_ignoresSlot hn))

theorem execSend_ignoresSlot (hn : n ≠ ch.toNat) : IgnoresSlot n d (execSend ch) s :=
  requireOpen_ignoresSlot hn (requireRange_ignoresSlot (body_ignoresSlot hn sendBody_ignoresSlot))

theorem execReceive_ignoresSlot (hn : n ≠ ch.toNat) : IgnoresSlot n d (execReceive ch) s :=
  requireOpen_ignoresSlot hn (body_ignoresSlot (body := receiveBody s.timeoutMicros) hn receiveBody_ignoresSlot)

theorem execClose_ignoresSlot (hn : n ≠ ch.toNat) : IgnoresSlot n d (execClose ch) s := by
  refine requireOpen_ignoresSlot hn ?_
  show Host.Outcome.next ((((s.setRespCh ch.toNat).setChannel n d).setChannel ch.toNat Channel.free).respond .ok) = _
  rw [setChannel_comm hn]
  rfl

end OtherSlot

/-- Settles O47: one lemma a channel command, each following it through its checks and requests. -/
theorem channelsAreIndependent : Obligations.ChannelsAreIndependent := by
  unfold Obligations.ChannelsAreIndependent
  intro i s n d hi hn
  cases i with
  | register ch => exact execRegister_ignoresSlot hn
  | unregister ch => exact execUnregister_ignoresSlot hn
  | send ch => exact execSend_ignoresSlot hn
  | receive ch => exact execReceive_ignoresSlot hn
  | close ch => exact execClose_ignoresSlot hn
  | openChannel | parseHwaddr | isMulticast => cases hi

end Sys2Proof.Proofs.Exceptions

namespace Sys2Proof.Proofs.ResetAndHazards
/-! The reset input and what it leaves outside the registers (spec/70_reset_and_hazards.md R175, R177, R178): the step
is `State.hardReset`, and what it leaves in OPM is a lemma about that operation. -/

open Sys2Proof Sys2Proof.Machine
open Sys2Proof.Proofs.BlockState (step_of_inputs)

variable {s t : State} {rest : List HostOp}

/-- An OPM byte the HOST has not written since reset holds the free value of that reset (R177; assumption log 5). -/
theorem opmByte_of_read_eq_none {i : Nat} (h : s.opm.read i = none) : s.opmByte i = Config.unwrittenOpm s.resets i := by
  simp [State.opmByte, h]

theorem hardReset_read_opm (s : State) (i : Nat) : s.hardReset.opm.read i = none := by
  rw [State.hardReset_opm, Memory.read_nil]

theorem hardReset_opmByte (s : State) (i : Nat) : s.hardReset.opmByte i = Config.unwrittenOpm (s.resets + 1) i := by
  rw [opmByte_of_read_eq_none (hardReset_read_opm s i), State.hardReset_resets]

/-- The reset input always completes, and only with `State.hardReset` (R175). -/
theorem step_of_reset_eq_next_iff (hin : s.inputs = .reset :: rest) :
    step s = .next t ↔ t = State.hardReset { s with inputs := rest } := by
  rw [step_of_inputs hin, perform, Host.Outcome.next.injEq, eq_comm]

/-- Settles O18: the one state the reset input leaves keeps the history and ENV, and its OPM lists no written byte. -/
theorem resetInputKeepsEnvironment : Obligations.ResetInputKeepsEnvironment := by
  unfold Obligations.ResetInputKeepsEnvironment
  intro s t rest hin hstep
  obtain rfl := (step_of_reset_eq_next_iff hin).mp hstep
  exact ⟨State.hardReset_history _, State.hardReset_env _, State.hardReset_inputs _, State.hardReset_frame _,
    fun i => ⟨hardReset_read_opm _ i, hardReset_opmByte _ i⟩⟩

end Sys2Proof.Proofs.ResetAndHazards
